-- ==== Sys2Proof/Word.lean ====
section
/-! DEFINITION. The plain data types of the DVX-2240 that commands and state share: the numbers that
name a rank, bank, row, column, line, tag, region and slot (chapter 1, Terms), the 64 data bytes of a
line, the stored form of a line (R4, R5, R6) and the saturating 32-bit counter. -/

namespace Sys2Proof

/-- A byte of a line or of a service port frame. -/
abbrev Byte := BitVec 8

/-- The 64 data bytes of a line, by offset (chapter 1: "A line is 64 bytes of data"). -/
abbrev LineData := Vector Byte 64

/-- A line address, 0 to 536,870,911 (R1). -/
abbrev LineAddr := Fin 536870912

/-- One of the four ranks (R1). -/
abbrev RankNo := Fin 4

/-- One of the 16 banks of a rank (R1). -/
abbrev BankNo := Fin 16

/-- One of the 65,536 rows of a bank (R1). A stripe number has the same range (R2). -/
abbrev RowNo := Fin 65536

/-- One of the 128 columns of a row (R1). -/
abbrev ColNo := Fin 128

/-- A front link tag, 0 to 63 (R32). -/
abbrev Tag := Fin 64

/-- A region index, 0 to 7 (R13). -/
abbrev RegionIx := Fin 8

/-- A substitution slot number, 0 to 63 (R76). -/
abbrev SlotIx := Fin 64

/-- What the line check unit is asked to store: 64 data bytes with fresh check symbols (R4), or the
poison line (R5). A write queue entry past its merge holds exactly this (R46). -/
inductive LineForm where
  | data (bytes : LineData)
  | poison
deriving DecidableEq, Repr, Inhabited

/-- The 72 bytes a rank holds for a line (R4, R5), by what is known of them (log entry 3: the spec gives
properties of the code and not the code). `intact f`: the line as `f` was written. `oneSymbol f i x`: that line with
symbol `i` differing in the bits `x`. `twoSymbols d i j x y`: the line of the data `d` with the two symbols `i` and
`j` differing in the bits `x` and `y`. `bytes raw`: any 72 bytes, symbol 0 in the highest bits. -/
inductive StoredLine where
  | intact (form : LineForm)
  | oneSymbol (form : LineForm) (symbol : Fin 18) (flips : BitVec 32)
  | twoSymbols (data : LineData) (first second : Fin 18) (flips1 flips2 : BitVec 32)
  | bytes (raw : BitVec 576)
deriving DecidableEq, Repr, Inhabited

/-- One more on a saturating 32-bit counter (R10, R54, R74, R141, R153). -/
def satInc (c : BitVec 32) : BitVec 32 := if c = BitVec.allOnes 32 then c else c + 1

/-- `f` applied to every element of a fixed-length collection. -/
def mapV {α β : Type} {n : Nat} (f : α → β) (v : Vector α n) : Vector β n :=
  ⟨⟨v.toList.map f⟩, by simp⟩

end Sys2Proof
end

