-- ==== Sys2Proof/Syntax.lean ====
section
/-! DEFINITION. The commands of the block: one constructor for each row of spec/opcode_table.json, with
the operands the row's rule names. A command is a message, a service port frame, a signal edge, or one of
the buffer's own indivisible steps ("What each step holds").

Operands that say WHICH work is meant: a WAITING read or a MERGING entry is named by the tag it holds
(R42), a ready entry by its line (R51: one ready entry per line), an operation at a rank port by its rank
and bank (R142: a bank carries one line operation). A completed read carries `disturb`: `none` when the
rank still holds what was last stored there, `some l` when the line has meanwhile become `l` (DESIGN CHOICE, log entry 4). -/

namespace Sys2Proof

inductive Instr where
  -- the front link (chapter 3)
  | read (tag : Tag) (la : LineAddr)
  | write (tag : Tag) (la : LineAddr) (data : LineData)
  | maskedWrite (tag : Tag) (la : LineAddr) (enables : BitVec 64) (data : LineData)
  | credit
  | issueRead (tag : Tag)
  | mergeReadIssue (tag : Tag)
  | writeEntryIssue (la : LineAddr)
  -- the rank ports (chapters 4, 8, 9)
  | hostReadComplete (rank : RankNo) (bank : BankNo) (disturb : Option StoredLine)
  | failoverReadComplete (rank : RankNo) (bank : BankNo) (disturb : Option StoredLine)
  | mergeReadComplete (rank : RankNo) (bank : BankNo) (disturb : Option StoredLine)
  | entryWriteComplete (rank : RankNo) (bank : BankNo)
  | schedulerGrant (rank : RankNo)
  | repairWriteComplete (rank : RankNo) (bank : BankNo)
  | scrubWriteComplete (rank : RankNo) (bank : BankNo)
  | refreshComplete (rank : RankNo)
  | refreshTimerExpiry (rank : RankNo)
  -- patrol (chapter 8)
  | patrolTimerExpiry
  | patrolReadComplete (rank : RankNo) (bank : BankNo) (disturb : Option StoredLine)
  -- the move engine (chapter 6)
  | jobStart
  | lineStepBegin
  | moveReadComplete (rank : RankNo) (bank : BankNo) (disturb : Option StoredLine)
  | targetWriteComplete (rank : RankNo) (bank : BankNo)
  -- quiesce (chapter 9)
  | qreqAssert
  | qreqDeassert
  | drainComplete
  | selfRefreshEntryComplete (rank : RankNo)
  | selfRefreshExitComplete (rank : RankNo)
  | rankInitComplete (rank : RankNo)
  -- resets
  | powerOnReset (straps : BitVec 2)
  | warmResetAssert
  | warmResetRelease
  -- the service port (chapter 11): the payload bytes of section 11.6
  | getStatus (page : Byte)
  | getCounters (group : Byte)
  | clearCounters
  | stageRegion (index valid rank : Byte) (first last : BitVec 16) (policy patrol threshold : Byte)
  | readRegion (index selector : Byte)
  | commitRegions
  | readSlot (slot : Byte)
  | retireRow (rank bank : Byte) (row : BitVec 16) (flag : Byte)
  | retireRowNoCopy (rank bank : Byte) (row : BitVec 16)
  | releaseSlot (slot : Byte)
  | readCursor (rank bank : Byte)
  | readMirror (index : Byte)
  | failSide (index side : Byte)
  | resyncRegion (index : Byte)
  | setPatrol (interval : BitVec 16)
  | readTracker (position : Byte)
  | popEvent
  | peekEvent
  | setAlertMask (mask : BitVec 16)
  | openFront
  | closeFront
  | commandFrameInvalid (frame : List Byte)
deriving DecidableEq, Repr

end Sys2Proof
end

