-- ==== Sys2Proof/Decode.lean ====
section
/-! DEFINITION. What spells a command. The opcode table gives no row any bits, so `decodeTableWord`
answers none for every word. Twenty of the rows (RETIRE_ROW counted with its NO_COPY form) are spelled by
service port frames; their bytes are given by R163, R164 and section 11.6, and are read and written here. -/

namespace Sys2Proof

/-- The command a table word spells: none, since no row of spec/opcode_table.json has bits (DESIGN CHOICE, log entry 2). -/
def decodeTableWord (_nbits _w : Nat) : Option Instr := none

/-! ### Service port frames -/

/-- The result of a frame that fails a check of R164. -/
inductive FrameFailure where
  | badLength
  | badFrame
  | badCommand
deriving DecidableEq, Repr

/-- Two bytes as a 16-bit field, most significant byte first (section 11.6). -/
def word16 (hi lo : Byte) : BitVec 16 := hi ++ lo

/-- The two bytes of a 16-bit field, most significant byte first (section 11.6). -/
def bytes16 (w : BitVec 16) : List Byte := [w.extractLsb' 8 8, w.extractLsb' 0 8]

/-- The sum of the bytes modulo 256 (R163, R166). -/
def byteSum : List Byte → Byte
  | [] => 0
  | b :: bs => b + byteSum bs

/-- `code`, a length byte, the payload and the check byte that makes the sum 0 (R163, R166). -/
def frameBytes (code : Byte) (payload : List Byte) : List Byte :=
  let body := code :: BitVec.ofNat 8 payload.length :: payload
  body ++ [- byteSum body]

/-- The payload length the code table gives a command code: column "Out" of section 11.6. -/
def payloadLength : Nat → Option Nat
  | 0x01 => some 1
  | 0x02 => some 1
  | 0x03 => some 0
  | 0x10 => some 10
  | 0x11 => some 2
  | 0x12 => some 0
  | 0x20 => some 1
  | 0x21 => some 5
  | 0x22 => some 1
  | 0x23 => some 2
  | 0x30 => some 1
  | 0x31 => some 2
  | 0x32 => some 1
  | 0x40 => some 2
  | 0x41 => some 1
  | 0x50 => some 0
  | 0x51 => some 0
  | 0x52 => some 2
  | 0x60 => some 0
  | 0x61 => some 0
  | _ => none

/-- The checks of R164 in their order, on all the bytes written in the transaction (R163: a 33rd byte
makes the frame over length). `none`: the frame passes and is executed. -/
def frameFailure (frame : List Byte) : Option FrameFailure :=
  match frame with
  | code :: len :: _ :: _ =>
    if frame.length > 32 ∨ frame.length ≠ len.toNat + 3 then some .badLength
    else if byteSum frame ≠ 0 then some .badFrame
    else match payloadLength code.toNat with
      | none => some .badCommand
      | some n => if len.toNat = n then none else some .badLength
  | _ => some .badLength

/-- The command of a code and its payload (section 11.6, Command codes). The flag byte of code 0x21
tells RETIRE_ROW from its NO_COPY form (R93, R94). -/
def commandOf (code : Nat) (payload : List Byte) : Option Instr :=
  match code, payload with
  | 0x01, [page] => some (.getStatus page)
  | 0x02, [group] => some (.getCounters group)
  | 0x03, [] => some .clearCounters
  | 0x10, [i, v, k, f1, f0, l1, l0, p, pt, t] =>
    some (.stageRegion i v k (word16 f1 f0) (word16 l1 l0) p pt t)
  | 0x11, [i, sel] => some (.readRegion i sel)
  | 0x12, [] => some .commitRegions
  | 0x20, [n] => some (.readSlot n)
  | 0x21, [k, b, r1, r0, flag] =>
    if flag = 1 then some (.retireRowNoCopy k b (word16 r1 r0))
    else some (.retireRow k b (word16 r1 r0) flag)
  | 0x22, [n] => some (.releaseSlot n)
  | 0x23, [k, b] => some (.readCursor k b)
  | 0x30, [i] => some (.readMirror i)
  | 0x31, [i, x] => some (.failSide i x)
  | 0x32, [i] => some (.resyncRegion i)
  | 0x40, [v1, v0] => some (.setPatrol (word16 v1 v0))
  | 0x41, [n] => some (.readTracker n)
  | 0x50, [] => some .popEvent
  | 0x51, [] => some .peekEvent
  | 0x52, [m1, m0] => some (.setAlertMask (word16 m1 m0))
  | 0x60, [] => some .openFront
  | 0x61, [] => some .closeFront
  | _, _ => none

/-- The command that the bytes of one write transaction spell at its STOP (R163, R164, R165). -/
def decodeFrame (frame : List Byte) : Option Instr :=
  match frame with
  | [] => none
  | code :: rest =>
    match frameFailure frame with
    | some _ => some (.commandFrameInvalid frame)
    | none => commandOf code.toNat (rest.drop 1).dropLast

/-- The frame a service port command is written as (R163, section 11.6). -/
def encodeFrame : Instr → Option (List Byte)
  | .getStatus page => some (frameBytes 0x01 [page])
  | .getCounters group => some (frameBytes 0x02 [group])
  | .clearCounters => some (frameBytes 0x03 [])
  | .stageRegion i v k f l p pt t =>
    some (frameBytes 0x10 ([i, v, k] ++ bytes16 f ++ bytes16 l ++ [p, pt, t]))
  | .readRegion i sel => some (frameBytes 0x11 [i, sel])
  | .commitRegions => some (frameBytes 0x12 [])
  | .readSlot n => some (frameBytes 0x20 [n])
  | .retireRow k b r flag => some (frameBytes 0x21 ([k, b] ++ bytes16 r ++ [flag]))
  | .retireRowNoCopy k b r => some (frameBytes 0x21 ([k, b] ++ bytes16 r ++ [1]))
  | .releaseSlot n => some (frameBytes 0x22 [n])
  | .readCursor k b => some (frameBytes 0x23 [k, b])
  | .readMirror i => some (frameBytes 0x30 [i])
  | .failSide i x => some (frameBytes 0x31 [i, x])
  | .resyncRegion i => some (frameBytes 0x32 [i])
  | .setPatrol v => some (frameBytes 0x40 (bytes16 v))
  | .readTracker n => some (frameBytes 0x41 [n])
  | .popEvent => some (frameBytes 0x50 [])
  | .peekEvent => some (frameBytes 0x51 [])
  | .setAlertMask m => some (frameBytes 0x52 (bytes16 m))
  | .openFront => some (frameBytes 0x60 [])
  | .closeFront => some (frameBytes 0x61 [])
  | .commandFrameInvalid frame => some frame
  | .read _ _ | .write _ _ _ | .maskedWrite _ _ _ _ | .credit | .issueRead _ | .mergeReadIssue _
  | .writeEntryIssue _ | .hostReadComplete _ _ _ | .failoverReadComplete _ _ _
  | .mergeReadComplete _ _ _ | .entryWriteComplete _ _ | .schedulerGrant _
  | .repairWriteComplete _ _ | .scrubWriteComplete _ _ | .refreshComplete _
  | .refreshTimerExpiry _ | .patrolTimerExpiry | .patrolReadComplete _ _ _ | .jobStart
  | .lineStepBegin | .moveReadComplete _ _ _ | .targetWriteComplete _ _ | .qreqAssert
  | .qreqDeassert | .drainComplete | .selfRefreshEntryComplete _ | .selfRefreshExitComplete _
  | .rankInitComplete _ | .powerOnReset _ | .warmResetAssert | .warmResetRelease => none

end Sys2Proof
end

