-- ==== Sys2Proof/Config.lean ====
section
/-! DEFINITION. What the spec fixes as a number of the part, and the values it leaves open. A value left
open is an `opaque` constant with no body: nothing can be proved of it, so a claim holds whatever it is. -/

namespace Sys2Proof.Config

/-- FREE VALUE (R12; log entry 5): what a line holds when it has not been written since power was
applied, by the number of the power-on and the line's physical number. -/
opaque powerOnLine : Nat → Nat → StoredLine

/-- FREE VALUE (R4; log entry 3): what the line check unit's code gives for check symbols 16 and 17 (argument 0 and
1) of 64 data bytes. The spec gives properties of the code and not the code; `Machine.checkSymbol` keeps the choice
off the poison pattern. -/
opaque checkChoice : LineData → Fin 2 → BitVec 32

/-- FREE VALUE (R5; log entry 3): the two check symbols of the reserved poison pattern. -/
opaque poisonSymbol : Fin 2 → BitVec 32

/-- The values a symbol of 4 bytes can take (R4). -/
@[irreducible] def symbolValues : Nat := 4294967296

/-- Read credits, and the size of the read tracker (R35, R36, R43). -/
abbrev readCredits : Nat := 32

/-- Write credits, and the size of the write queue (R35, R36, R46). -/
abbrev writeCredits : Nat := 24

/-- Entries of the error tracker (R138). -/
abbrev trackerSize : Nat := 32

/-- Records of the event log (R154). -/
abbrev logSize : Nat := 32

/-- Repair writes one rank scheduler holds at most (R67: 16 restorative writes, one place kept for
scrub writes). -/
abbrev repairPlaces : Nat := 15

/-- Refresh debt at which refresh is mandatory (R145, R147). -/
abbrev maxDebt : Nat := 8

/-- Move-wait count at which the move guard acts (R145, R146). -/
abbrev maxMoveWait : Nat := 16

/-- Write queue entries at which host writes go before host reads (R145). -/
abbrev writesFirst : Nat := 16

/-- Side count at which a side is failed in DUPLEX (R118). -/
abbrev sideLimit : Nat := 4

/-- The alert mask after power-on reset (R158, R160; the layouts of chapter 11 give 0x0A4A). -/
abbrev defaultMask : BitVec 16 := 0x0A4A#16

end Sys2Proof.Config
end

