-- ==== Sys2Proof/Machine/State.lean ====
section
/-! DEFINITION. The state of the DVX-2240, block by block (chapter 0, Functional blocks), as plain data, with
its value after power-on reset. Each field's docstring names the rule that gives it. Fields marked
"the model's own" are not the spec's: `commits`, `born`, `powerCycles`, `sent`, `abandoned`, `lost` of a line step,
`pending`. -/

namespace Sys2Proof.Machine

/-! ### Stopping -/

/-- The faults of the block: none. The spec gives every command an effect, a refusal by message, or an
error response (DEDUCED, log entry 1), so `exec` and `step` never answer a fault. -/
inductive Fault where
deriving DecidableEq, Repr

/-- Why a command has no meaning in this model. -/
inductive Refusal where
  /-- Raised by `exec` for a row of the opcode table without a meaning; safe. No row is in that case. -/
  | notModelled (mnemonic : String)
deriving DecidableEq, Repr

/-! ### Places in memory -/

/-- A physical row (rank, bank, row) (R1). -/
structure PhysRow where
  rank : RankNo
  bank : BankNo
  row : RowNo
deriving DecidableEq, Repr, Inhabited

/-- A line as a rank port addresses it: a physical row and a column (R3). -/
structure Loc where
  rank : RankNo
  bank : BankNo
  row : RowNo
  col : ColNo
deriving DecidableEq, Repr, Inhabited

/-- The stored lines of the four ranks, by physical line number (the number R1 gives the line at that
place), rising strictly. A line not listed has not been written since power-on (R12; free value, log entry 5). -/
abbrev Store := List (Nat × StoredLine)

/-- A side of a mirrored region (R116). -/
inductive Side where
  | primary
  | shadow
deriving DecidableEq, Repr, Inhabited

/-- The side that is not the one given. -/
def Side.other : Side → Side
  | .primary => .shadow
  | .shadow => .primary

/-! ### The region table (chapter 2) -/

/-- The five policies (R13). -/
inductive Policy where
  | plain
  | spared
  | mirrored
  | pool
  | closed
deriving DecidableEq, Repr, Inhabited

/-- One entry of the region table (R13). -/
structure RegionEntry where
  valid : Bool
  rank : Byte
  first : BitVec 16
  last : BitVec 16
  policy : Policy
  patrol : Bool
  threshold : Byte
deriving DecidableEq, Repr, Inhabited

/-- An entry after power-on reset (R17). -/
def RegionEntry.reset : RegionEntry :=
  { valid := false, rank := 0, first := 0, last := 0, policy := .plain, patrol := false, threshold := 0 }

/-- Eight region entries (R14). -/
abbrev RegionTable := Vector RegionEntry 8

/-! ### The front link (chapter 3) -/

/-- The admission state (R34). -/
inductive Admission where
  | opened
  | closed
deriving DecidableEq, Repr, Inhabited

/-- The reasons of a REFUSAL (R33, R39). -/
inductive FrontReason where
  | closed
  | quiescing
  | noCredit
  | tagInUse
  | badMask
  | pool
  | shadow
  | closedRegion
deriving DecidableEq, Repr, Inhabited

/-- The outcome field of READ DATA (R8, R33). -/
inductive ReadResult where
  | ok
  | corrected
  | poisoned
deriving DecidableEq, Repr, Inhabited

/-- The outcome field of WRITE ACK (R9, R33). -/
inductive AckResult where
  | done
  | mergedPoison
deriving DecidableEq, Repr, Inhabited

/-- A message from the buffer to the memory controller (R33). -/
inductive HostMsg where
  | readData (tag : Tag) (data : LineData) (result : ReadResult)
  | writeAck (tag : Tag) (result : AckResult)
  | refusal (tag : Tag) (reason : FrontReason)
  | credit (reads writes : Nat) (initial : Bool)
deriving DecidableEq, Repr, Inhabited

/-- The state of a read in the tracker (R43). `heldForMerge t`: the entry it waits on is the MERGING entry
that holds tag `t` (R42: a MERGING entry holds its own tag). -/
inductive ReadState where
  | waiting
  | issued
  | heldForMerge (entryTag : Tag)
deriving DecidableEq, Repr, Inhabited

/-- An accepted host read (R43). -/
structure TrackedRead where
  tag : Tag
  la : LineAddr
  state : ReadState
deriving DecidableEq, Repr, Inhabited

/-- The state of a write queue entry with the contents it has in that state (R46, R49, R51).
`readIssued`: its merge read has been issued. `left`: its rank writes not yet completed (R52). -/
inductive EntryState where
  | merging (tag : Tag) (enables : BitVec 64) (data : LineData) (readIssued : Bool)
  | queued (form : LineForm)
  | held (form : LineForm)
  | issued (form : LineForm) (left : Nat)
deriving DecidableEq, Repr, Inhabited

/-- A write queue entry (R46). -/
structure QueueEntry where
  la : LineAddr
  state : EntryState
deriving DecidableEq, Repr, Inhabited

/-- The front link interface. The tags in use are those of `tracker` and of the MERGING entries of
`queue` (R42). `tracker` is kept in the order of entry, `queue` oldest first. -/
structure FrontLink where
  /-- R34 -/
  admission : Admission
  /-- R38 -/
  creditsStarted : Bool
  /-- R36, 0..32 -/
  readBalance : Nat
  /-- R36, 0..24 -/
  writeBalance : Nat
  /-- R36, 0..32 -/
  readOwed : Nat
  /-- R36, 0..24 -/
  writeOwed : Nat
  /-- R43, up to 32 -/
  tracker : List TrackedRead
  /-- R46, up to 24 -/
  queue : List QueueEntry
deriving DecidableEq, Repr, Inhabited

/-- The front link after either reset, but for its counters (R55). -/
def FrontLink.reset : FrontLink :=
  { admission := .opened, creditsStarted := false, readBalance := 0, writeBalance := 0, readOwed := 0,
    writeOwed := 0, tracker := [], queue := [] }

/-! ### The substitution table (chapter 5) -/

/-- Why a row was retired (R76). -/
inductive Cause where
  | threshold
  | uncorrectable
  | management
  | targetFailed
deriving DecidableEq, Repr, Inhabited

/-- The state of a slot in use, with its next location where it has one (R76, R77). -/
inductive SlotPhase where
  | pending (next : RowNo)
  | copying (next : RowNo)
  | active
deriving DecidableEq, Repr, Inhabited

/-- A slot in use (R76). The current and next location are rows of the home row's rank and bank. -/
structure SlotEntry where
  home : PhysRow
  current : RowNo
  phase : SlotPhase
  cause : Cause
  /-- 0..128 (R90) -/
  lost : Nat
deriving DecidableEq, Repr, Inhabited

/-- The 64 slots; `none` is FREE (R76). -/
abbrev SlotTable := Vector (Option SlotEntry) 64

/-! ### The move engine (chapter 6) -/

/-- A job reference (R99). -/
inductive JobRef where
  | rowMove (slot : SlotIx)
  | resync (region : RegionIx)
deriving DecidableEq, Repr, Inhabited

/-- The engine state (R100). -/
inductive EngineMode where
  | idle
  | running
  | paused
deriving DecidableEq, Repr, Inhabited

/-- Source and target of a job (R100). -/
inductive JobEnds where
  | rows (source target : PhysRow)
  | sides (source : Side)
deriving DecidableEq, Repr, Inhabited

/-- The phase of a line step (R100). -/
inductive StepPhase where
  | reading
  | writing
deriving DecidableEq, Repr, Inhabited

/-- A line step in flight (R100, R103, R107): its position, line address and two locations, its phase, the
line of its held entry, and the discarded mark of R111 to R113. `lost` is the model's own: its move read counted a
line lost (R105), which the step takes back if it is discarded (R90, R112; log entry 28). -/
structure LineStep where
  position : Nat
  la : LineAddr
  source : Loc
  target : Loc
  phase : StepPhase
  held : Option LineAddr
  discarded : Bool
  lost : Bool := false
deriving DecidableEq, Repr, Inhabited

/-- The job record (R100). `closed`: the job was abandoned or cancelled and waits for its discarded step to
end (R112, R113). -/
structure Job where
  ref : JobRef
  ends : JobEnds
  length : Nat
  p : Nat
  step : Option LineStep
  lost : Nat
  closed : Bool
deriving DecidableEq, Repr, Inhabited

/-- The move engine: its state, the job in progress and the job queue, oldest first (R99, R100). -/
structure Engine where
  mode : EngineMode
  job : Option Job
  queue : List JobRef
deriving DecidableEq, Repr, Inhabited

/-! ### The mirror controller (chapter 7) -/

/-- The mirror states (R116). -/
inductive MirrorState where
  | duplex
  | simplexPrimary
  | simplexShadow
  | rebuildShadow
  | rebuildPrimary
deriving DecidableEq, Repr, Inhabited

/-- A mirror record (R116). `born` is the model's own: the number of the commit that created the record,
by which a report from a read of an earlier record is told apart (R31; DEDUCED, log entry 8). -/
structure MirrorRecord where
  state : MirrorState
  /-- 0..4, saturating -/
  primaryCount : Nat
  /-- 0..4, saturating -/
  shadowCount : Nat
  born : Nat
deriving DecidableEq, Repr, Inhabited

/-! ### Operations at the rank ports (chapters 4 and 9) -/

/-- The four read outcomes (R6). -/
inductive ReadOutcome where
  | clean
  | corrected
  | uncorrectable
  | poison
deriving DecidableEq, Repr, Inhabited

/-- What the line check unit delivers for a rank read (R6). -/
structure Reading where
  outcome : ReadOutcome
  data : LineData
deriving DecidableEq, Repr, Inhabited

/-- The routing class an operation was placed under, with what R56 says it carries: the region of a SPARED
or MIRRORED line, the side, and whether the region was then DUPLEX (R65, R66). -/
inductive RouteClass where
  | plain
  | spared (region : RegionIx)
  | mirrored (region : RegionIx) (side : Side) (duplex : Bool) (born : Nat)
  | stale
deriving DecidableEq, Repr, Inhabited

/-- The routing class a rank write of the router is placed under, with the region index and the side of a MIRRORED line
(R56, R57). -/
inductive WriteClass where
  | plain
  | spared
  | mirrored (region : RegionIx) (side : Side)
  | stale
deriving DecidableEq, Repr, Inhabited

/-- Which read of a patrol step: the one read, or the first or second of a DUPLEX pair (R133). -/
inductive PatrolTurn where
  | single
  | primary
  | shadow
deriving DecidableEq, Repr, Inhabited

/-- The line operations (R143). Those of the router carry their routing class (R56): a read in `RouteClass`, a write in
`WriteClass`; a failover read is of a MIRRORED line, on the shadow of its region (R65). -/
inductive OpKind where
  | hostRead (tag : Tag) (cls : RouteClass)
  | mergeRead (tag : Tag) (cls : RouteClass)
  | failoverRead (tag : Tag) (merge : Bool) (region : RegionIx) (born : Nat)
  | entryWrite (form : LineForm) (cls : WriteClass)
  | repairWrite (data : LineData) (region : RegionIx) (side : Side) (patrol : Bool) (cls : WriteClass)
  | moveRead
  | targetWrite (form : LineForm)
  | patrolRead (turn : PatrolTurn)
  | scrubWrite (data : LineData) (cls : WriteClass)
deriving DecidableEq, Repr, Inhabited

/-- A line operation with its line address, its location and its superseded mark (R56, R67, R68).
`abandoned` is the model's own: a reset, warm or power-on, fell while it was in progress, so its result is discarded
(R55, R75, R114, R137). -/
structure LineOp where
  kind : OpKind
  la : LineAddr
  loc : Loc
  superseded : Bool := false
  abandoned : Bool := false
deriving DecidableEq, Repr, Inhabited

/-- The rank-wide operations (R142). -/
inductive WideOp where
  | refresh
  | entry
  | exit
  | init
deriving DecidableEq, Repr, Inhabited

/-- The rank states (R142). -/
inductive RankState where
  | initializing
  | operating
  | selfRefresh
deriving DecidableEq, Repr, Inhabited

/-- One rank scheduler. -/
structure RankSched where
  /-- R142 -/
  state : RankState
  /-- line operations placed and not yet granted, oldest first (R143) -/
  placed : List LineOp
  /-- the bank slots: the line operation in progress, or idle (R142) -/
  banks : Vector (Option LineOp) 16
  /-- the rank-wide operation placed and not yet granted (R148, R150, R151) -/
  widePlaced : Option WideOp
  /-- the rank-wide operation in progress, which makes every slot busy (R142) -/
  wide : Option WideOp
  /-- refresh debt, 0..8 (R147) -/
  debt : Nat
  /-- move-wait count, 0..16 (R146) -/
  moveWait : Nat
  /-- the refresh timer runs (R147) -/
  timerOn : Bool
deriving DecidableEq, Repr, Inhabited

/-- A rank after power-on reset: initialization placed (R142, R148). -/
def RankSched.reset : RankSched :=
  { state := .initializing, placed := [], banks := Vector.replicate 16 none, widePlaced := some .init,
    wide := none, debt := 0, moveWait := 0, timerOn := false }

/-! ### Patrol and the error tracker (chapter 8) -/

/-- The policy and mirror state recorded for a patrol step (R133). -/
inductive PatrolTreat where
  | plain
  | spared
  | simplex (side : Side) (born : Nat)
  | duplex (born : Nat)
deriving DecidableEq, Repr, Inhabited

/-- The first read of a DUPLEX pair, kept until the second completes (R135), with its superseded mark. -/
structure FirstRead where
  reading : Reading
  superseded : Bool
deriving DecidableEq, Repr, Inhabited

/-- A scrub write that waits with its step for the scheduler's place (R136), with the routing class it was formed under
(R56). -/
structure WaitingScrub where
  loc : Loc
  data : LineData
  cls : WriteClass
  superseded : Bool
deriving DecidableEq, Repr, Inhabited

/-- The patrol step in flight (R133). `outstanding`: its reads and restorative writes not yet done. -/
structure PatrolStep where
  region : RegionIx
  treat : PatrolTreat
  la : LineAddr
  outstanding : Nat
  first : Option FirstRead
  waiting : Option WaitingScrub
deriving DecidableEq, Repr, Inhabited

/-- The patrol unit. -/
structure Patrol where
  /-- R128, 0..65,535 µs; 0 stops the timer -/
  interval : BitVec 16
  /-- R130: idle, or a region index and a position -/
  cursor : Option (RegionIx × Nat)
  /-- R130, wraps -/
  pass : BitVec 16
  /-- R133 -/
  step : Option PatrolStep
deriving DecidableEq, Repr, Inhabited

/-- An entry of the error tracker (R138). -/
structure TrackerEntry where
  row : PhysRow
  region : RegionIx
  /-- 1..255, saturating -/
  count : Nat
deriving DecidableEq, Repr, Inhabited

/-! ### The quiesce controller (chapter 9) -/

/-- The quiesce states (section 9.4). -/
inductive QuiesceState where
  | init
  | run
  | draining
  | entering
  | asleep
  | waking
deriving DecidableEq, Repr, Inhabited

/-! ### The counters -/

/-- The outcome counters of one rank (R10). -/
structure OutcomeCounters where
  corrected : BitVec 32
  uncorrectable : BitVec 32
  poison : BitVec 32
deriving DecidableEq, Repr, Inhabited

/-- The 30 counters of the buffer (R168): outcome (R10), refusal (R54), mirror (R74), patrol (R141) and
refresh late (R153) counters. -/
structure Counters where
  outcomes : Vector OutcomeCounters 4
  noCredit : BitVec 32
  tagInUse : BitVec 32
  badMask : BitVec 32
  pool : BitVec 32
  shadow : BitVec 32
  closedRegion : BitVec 32
  failoverReads : BitVec 32
  repairsWritten : BitVec 32
  repairsSuperseded : BitVec 32
  repairsDropped : BitVec 32
  passes : BitVec 32
  skippedExpiries : BitVec 32
  scrubWrites : BitVec 32
  scrubsSuperseded : BitVec 32
  refreshLate : Vector (BitVec 32) 4
deriving DecidableEq, Repr, Inhabited

/-- All 30 counters at 0 (R12, R54, R74, R141, R153, R168). -/
def Counters.zero : Counters :=
  { outcomes := Vector.replicate 4 { corrected := 0, uncorrectable := 0, poison := 0 },
    noCredit := 0, tagInUse := 0, badMask := 0, pool := 0, shadow := 0, closedRegion := 0,
    failoverReads := 0, repairsWritten := 0, repairsSuperseded := 0, repairsDropped := 0,
    passes := 0, skippedExpiries := 0, scrubWrites := 0, scrubsSuperseded := 0,
    refreshLate := Vector.replicate 4 0 }

/-! ### The event log (chapter 10) -/

/-- The source of an UNCORRECTABLE event (R154). -/
inductive EventSource where
  | hostRead
  | mergeRead
  | patrol
  | copy
  | resync
deriving DecidableEq, Repr, Inhabited

/-- The reasons of a refused retirement request (R82 to R87). -/
inductive RetireReason where
  | notSpared
  | tableFull
  | noSpare
  | already
deriving DecidableEq, Repr, Inhabited

/-- The cause of a side failure (R118, R120). -/
inductive SideCause where
  | threshold
  | management
deriving DecidableEq, Repr, Inhabited

/-- An event: one of the twelve kinds with its fields (R154). -/
inductive Event where
  | resetSeen (warm : Bool)
  | uncorrectable (source : EventSource) (loc : Loc)
  | retireStarted (slot : SlotIx) (row : PhysRow) (cause : Cause)
  | retireRefused (row : PhysRow) (reason : RetireReason)
  | moveDone (slot : SlotIx) (lost : Nat)
  | mirrorRepaired (region : RegionIx) (side : Side) (line : Loc)
  | mirrorSideFailed (region : RegionIx) (side : Side) (cause : SideCause)
  | resyncDone (region : RegionIx) (lost : Nat)
  | requestRefused (tag : Tag) (reason : FrontReason) (line : Loc)
  | refreshLate (rank : RankNo)
  | patrolPass (number : BitVec 16)
  | logLost (count : Nat)
deriving DecidableEq, Repr, Inhabited

/-- An event record (R154). -/
structure EventRecord where
  seq : BitVec 16
  event : Event
deriving DecidableEq, Repr, Inhabited

/-- The event log (R154) and ALERT_N, asserted when `alert` (R158). -/
structure EventLog where
  /-- up to 32, oldest first -/
  records : List EventRecord
  nextSeq : BitVec 16
  /-- 0..65,535, saturating -/
  lost : Nat
  mask : BitVec 16
  alert : Bool
deriving DecidableEq, Repr, Inhabited

/-- The log at the release of power-on reset: RESET_SEEN (COLD) stored (R160). -/
def EventLog.reset : EventLog :=
  { records := [{ seq := 0, event := .resetSeen false }], nextSeq := 1, lost := 0,
    mask := Config.defaultMask, alert := false }

/-! ### The service port (chapter 11) -/

/-- The service port: its I2C address (R162) and the current response frame (R166). -/
structure ServicePort where
  address : BitVec 7
  response : List Byte
deriving DecidableEq, Repr, Inhabited

/-- The IDLE frame: result IDLE, length 0, check byte 0xF8 (R166). -/
def idleFrame : List Byte := [0x08, 0x00, 0xF8]

/-! ### The whole -/

/-- The state of the block. -/
structure State where
  front : FrontLink
  /-- R14 -/
  staged : RegionTable
  /-- R14 -/
  active : RegionTable
  slots : SlotTable
  /-- spare cursors, that of rank k and bank b at 16 k + b (R79) -/
  cursors : Vector Nat 64
  engine : Engine
  /-- R116 -/
  mirrors : Vector (Option MirrorRecord) 8
  patrol : Patrol
  /-- up to 32, oldest first (R138) -/
  tracker : List TrackerEntry
  ranks : Vector RankSched 4
  quiesce : QuiesceState
  /-- QREQ_N is asserted (R149) -/
  qreq : Bool
  /-- QACK_N is asserted (R150) -/
  qack : Bool
  /-- RESET_N is asserted (R152) -/
  resetN : Bool
  counters : Counters
  log : EventLog
  port : ServicePort
  /-- what the ranks store (R4, R5, R7, R12) -/
  store : Store
  /-- the model's own: power-on resets so far, which names the free contents of unwritten lines (R12) -/
  powerCycles : Nat
  /-- the model's own: successful commits so far (R31) -/
  commits : Nat
  /-- the model's own: the messages sent to the memory controller since power-on, oldest first (R33) -/
  sent : List HostMsg
  /-- the model's own: commands waiting, first in first out -/
  pending : List Instr
deriving DecidableEq, Repr

/-- The state right after power-on reset (R12, R17, R55, R97, R99, R100, R127, R128, R130, R140, R148,
R160, R162, R166). Levels the spec leaves to the board (straps 00, QREQ_N deasserted, RESET_N
deasserted) are DESIGN CHOICE, log entry 6. -/
def State.reset : State :=
  { front := .reset
    staged := Vector.replicate 8 .reset
    active := Vector.replicate 8 .reset
    slots := Vector.replicate 64 none
    cursors := Vector.replicate 64 0
    engine := { mode := .idle, job := none, queue := [] }
    mirrors := Vector.replicate 8 none
    patrol := { interval := 0, cursor := none, pass := 0, step := none }
    tracker := []
    ranks := Vector.replicate 4 .reset
    quiesce := .init
    qreq := false
    qack := false
    resetN := false
    counters := .zero
    log := .reset
    port := { address := 0x58, response := idleFrame }
    store := []
    powerCycles := 0
    commits := 0
    sent := []
    pending := [] }

end Sys2Proof.Machine
end

