-- ==== Sys2Proof/Machine/Operands.lean ====
section
/-! DEFINITION. Addresses, positions, region decode and byte layouts: how the numbers a command carries are
read (R1, R2, R3, R18, R102) and how the answers of the service port are written (section 11.6). -/

namespace Sys2Proof.Machine

/-! ### Line addresses and rows (chapter 1) -/

/-- The column of a line address (R1). -/
def colOf (la : LineAddr) : ColNo := Fin.ofNat 128 la.val

/-- The home row of a line address (R1). -/
def homeRow (la : LineAddr) : PhysRow :=
  { rank := Fin.ofNat 4 (la.val / 134217728)
    bank := Fin.ofNat 16 (la.val / 128)
    row := Fin.ofNat 65536 (la.val / 2048) }

/-- The line at a column of a physical row (R3). -/
def PhysRow.atCol (r : PhysRow) (c : ColNo) : Loc := { rank := r.rank, bank := r.bank, row := r.row, col := c }

/-- The physical row of a location. -/
def Loc.physRow (l : Loc) : PhysRow := { rank := l.rank, bank := l.bank, row := l.row }

/-- The home location of a line address: its home row at its column (R1, R3). -/
def homeLoc (la : LineAddr) : Loc := (homeRow la).atCol (colOf la)

/-- The inverse of the decomposition, on any location (R1): its physical line number. -/
def Loc.number (l : Loc) : Nat :=
  l.rank.val * 134217728 + l.row.val * 2048 + l.bank.val * 128 + l.col.val

/-- The line address whose home location is the one given (R1). -/
def Loc.lineAddr (l : Loc) : LineAddr := Fin.ofNat 536870912 l.number

/-- The rank above (R3, R20); used for the even ranks of mirrored regions. -/
def rankAbove (k : RankNo) : RankNo := k + 1

/-- The location of a mirrored line on a side (R3): the home row, or the row of the same bank and number on
the rank above, at the line's column. -/
def sideLoc (side : Side) (la : LineAddr) : Loc :=
  match side with
  | .primary => homeLoc la
  | .shadow => { homeLoc la with rank := rankAbove (homeLoc la).rank }

/-! ### Regions (chapter 2) -/

/-- The region indices in ascending order. -/
def regionIxs : List RegionIx := [0, 1, 2, 3, 4, 5, 6, 7]

/-- The slot numbers in ascending order. -/
def slotIxs : List SlotIx := List.finRange 64

/-- The ranks in ascending order. -/
def rankNos : List RankNo := [0, 1, 2, 3]

/-- The stripe lies in the entry's run (R13). -/
def RegionEntry.hasStripe (e : RegionEntry) (s : Nat) : Bool :=
  decide (e.first.toNat ≤ s) && decide (s ≤ e.last.toNat)

/-- The entry is valid and covers stripe (k, s) (R13, R18). -/
def RegionEntry.covers (e : RegionEntry) (k : RankNo) (s : RowNo) : Bool :=
  e.valid && decide (e.rank.toNat = k.val) && e.hasStripe s.val

/-- The number of positions of the entry's run: n × 2,048 for n stripes (R2, R13). -/
def RegionEntry.positions (e : RegionEntry) : Nat := (e.last.toNat + 1 - e.first.toNat) * 2048

/-- The line address at a position of the entry's run (R2, R13). -/
def RegionEntry.lineAt (e : RegionEntry) (q : Nat) : LineAddr :=
  Fin.ofNat 536870912 (e.rank.toNat * 134217728 + e.first.toNat * 2048 + q)

/-- The position of a line in the entry's run (R2). -/
def RegionEntry.positionOf (e : RegionEntry) (la : LineAddr) : Nat :=
  (((homeRow la).row.val - e.first.toNat) * 16 + (homeRow la).bank.val) * 128 + (colOf la).val

/-- The result of decoding a stripe (R18). -/
inductive Decoded where
  | region (index : RegionIx) (policy : Policy) (patrol : Bool)
  | shadow (index : RegionIx)
  | undecoded
deriving DecidableEq, Repr, Inhabited

/-- Step 1 of R18: the valid entry of the stripe's rank that covers it. -/
def coveringEntry (t : RegionTable) (k : RankNo) (s : RowNo) : Option RegionIx :=
  regionIxs.find? fun i => t[i].covers k s

/-- Step 2 of R18: for odd k, the valid MIRRORED entry of rank k − 1 that covers the stripe number. -/
def shadowingEntry (t : RegionTable) (k : RankNo) (s : RowNo) : Option RegionIx :=
  if k.val % 2 = 1 then
    regionIxs.find? fun i => decide (t[i].policy = .mirrored) && t[i].covers (k - 1) s
  else none

/-- The decode of a stripe against a table (R18). -/
def decodeStripe (t : RegionTable) (k : RankNo) (s : RowNo) : Decoded :=
  match coveringEntry t k s with
  | some i => .region i t[i].policy t[i].patrol
  | none =>
    match shadowingEntry t k s with
    | some i => .shadow i
    | none => .undecoded

/-- The decode of a line address, or of a physical row: that of the stripe of its (home) row (R18). -/
def decodeRow (t : RegionTable) (r : PhysRow) : Decoded := decodeStripe t r.rank r.row

/-- The side of a mirrored line that a location is on: the primary on the line's home rank, else the shadow (R3). -/
def sideAt (la : LineAddr) (l : Loc) : Side := if l.rank = (homeRow la).rank then .primary else .shadow

/-- The routing class of a write of a line at a location: by the routing view of the line's home stripe, with the region
index and the side for a MIRRORED line (R56, R57). -/
def writeClass (t : RegionTable) (la : LineAddr) (l : Loc) : WriteClass :=
  match decodeRow t (homeRow la) with
  | .undecoded => .plain
  | .shadow _ => .stale
  | .region i policy _ =>
    match policy with
    | .plain => .plain
    | .spared => .spared
    | .mirrored => .mirrored i (sideAt la l)
    | .pool => .stale
    | .closed => .stale

/-! ### Spare rows (R78) -/

/-- The valid POOL entries of a rank. -/
def poolEntries (t : RegionTable) (k : RankNo) : List RegionEntry :=
  t.toList.filter fun e => e.valid && decide (e.rank.toNat = k.val) && decide (e.policy = .pool)

/-- An entry put before the first one that begins above it. -/
def insertByFirst (e : RegionEntry) : List RegionEntry → List RegionEntry
  | [] => [e]
  | x :: xs => if e.first.toNat ≤ x.first.toNat then e :: x :: xs else x :: insertByFirst e xs

/-- Entries in ascending order of their first stripe. -/
def sortByFirst : List RegionEntry → List RegionEntry
  | [] => []
  | e :: es => insertByFirst e (sortByFirst es)

/-- The number of stripes of a run (R13). -/
def RegionEntry.stripes (e : RegionEntry) : Nat := e.last.toNat + 1 - e.first.toNat

/-- The stripe at a position of the runs taken one after another. -/
def stripeAt : List RegionEntry → Nat → Option RowNo
  | [], _ => none
  | e :: es, n =>
    if n < e.stripes then some (Fin.ofNat 65536 (e.first.toNat + n)) else stripeAt es (n - e.stripes)

/-- The number of spares of every bank of a rank (R78). -/
def spareCount (t : RegionTable) (k : RankNo) : Nat := ((poolEntries t k).map RegionEntry.stripes).sum

/-- The spare row at a position of the rank's order: POOL rows ascending, across all POOL entries (R78). -/
def spareAt (t : RegionTable) (k : RankNo) (n : Nat) : Option RowNo :=
  stripeAt (sortByFirst (poolEntries t k)) n

/-- The place of the spare cursor of a rank and bank (R79). -/
def cursorIx (k : RankNo) (b : BankNo) : Fin 64 := Fin.ofNat 64 (16 * k.val + b.val)

/-! ### Merging bytes (R32, R48, R49) -/

/-- The enabled bytes of `new` laid over `old`. -/
def overlay (enables : BitVec 64) (new old : LineData) : LineData :=
  Vector.ofFn fun i : Fin 64 => if enables.getLsbD i.val then new[i] else old[i]

/-- 64 bytes of 0x00. -/
def zeroLine : LineData := Vector.replicate 64 0

/-! ### Bytes and codes of the service port (section 11.6) -/

/-- A one-byte field. -/
def byte1 (n : Nat) : Byte := BitVec.ofNat 8 n

/-- A two-byte field, most significant byte first. -/
def be16 (n : Nat) : List Byte := bytes16 (BitVec.ofNat 16 n)

/-- A four-byte field, most significant byte first. -/
def be32 (n : Nat) : List Byte := be16 (n / 65536) ++ be16 n

/-- A flag byte. -/
def flagByte (b : Bool) : Byte := if b then 1 else 0

/-- A flag read from its byte; any other value is BAD_ARG (R15, R93, R167). -/
def flagOf (b : Byte) : Option Bool :=
  if b = 0 then some false else if b = 1 then some true else none

/-- A region index read from its byte (R15, R16, R120, R121, R126). -/
def regionOf (b : Byte) : Option RegionIx :=
  if h : b.toNat < 8 then some ⟨b.toNat, h⟩ else none

/-- A slot number read from its byte (R95, R96). -/
def slotOf (b : Byte) : Option SlotIx :=
  if h : b.toNat < 64 then some ⟨b.toNat, h⟩ else none

/-- A rank read from its byte (R93, R96). -/
def rankOf (b : Byte) : Option RankNo :=
  if h : b.toNat < 4 then some ⟨b.toNat, h⟩ else none

/-- A bank read from its byte (R93, R96). -/
def bankOf (b : Byte) : Option BankNo :=
  if h : b.toNat < 16 then some ⟨b.toNat, h⟩ else none

/-- A row number read from its two bytes (R93). -/
def rowOf (w : BitVec 16) : RowNo := ⟨w.toNat, w.isLt⟩

def Policy.code : Policy → Byte
  | .plain => 0
  | .spared => 1
  | .mirrored => 2
  | .pool => 3
  | .closed => 4

/-- The policy of a code (R15: anything else is BAD_ARG). -/
def policyOf (b : Byte) : Option Policy :=
  if b = 0 then some .plain
  else if b = 1 then some .spared
  else if b = 2 then some .mirrored
  else if b = 3 then some .pool
  else if b = 4 then some .closed
  else none

def Side.code : Side → Byte
  | .primary => 0
  | .shadow => 1

/-- The side of a code (R120). -/
def sideOf (b : Byte) : Option Side :=
  if b = 0 then some .primary else if b = 1 then some .shadow else none

def Cause.code : Cause → Byte
  | .threshold => 0
  | .uncorrectable => 1
  | .management => 2
  | .targetFailed => 3

/-- The cause of MIRROR_SIDE_FAILED in the codes of a cause. -/
def SideCause.code : SideCause → Byte
  | .threshold => 0
  | .management => 2

def MirrorState.code : MirrorState → Byte
  | .duplex => 1
  | .simplexPrimary => 2
  | .simplexShadow => 3
  | .rebuildShadow => 4
  | .rebuildPrimary => 5

def EventSource.code : EventSource → Byte
  | .hostRead => 0
  | .mergeRead => 1
  | .patrol => 2
  | .copy => 3
  | .resync => 4

def EngineMode.code : EngineMode → Byte
  | .idle => 0
  | .running => 1
  | .paused => 2

def QuiesceState.code : QuiesceState → Byte
  | .init => 0
  | .run => 1
  | .draining => 2
  | .entering => 3
  | .asleep => 4
  | .waking => 5

def RankState.code : RankState → Byte
  | .initializing => 0
  | .operating => 1
  | .selfRefresh => 2

/-- The front link reasons that are recorded (R41); CLOSED and QUIESCING have no code and are in no record. -/
def FrontReason.code : FrontReason → Byte
  | .noCredit => 1
  | .tagInUse => 2
  | .badMask => 3
  | .pool => 4
  | .shadow => 5
  | .closedRegion => 6
  | .closed => 0
  | .quiescing => 0

/-- The result codes of a response frame, IDLE apart (R167). -/
inductive Result where
  | ok
  | badFrame
  | badLength
  | badCommand
  | badArg
  | busy
  | refused
  | empty
deriving DecidableEq, Repr, Inhabited

def Result.code : Result → Byte
  | .ok => 0x00
  | .badFrame => 0x01
  | .badLength => 0x02
  | .badCommand => 0x03
  | .badArg => 0x04
  | .busy => 0x05
  | .refused => 0x06
  | .empty => 0x07

/-- The reasons of a REFUSED response (R167). -/
inductive PortReason where
  | range
  | overlap
  | inUse
  | notSpared
  | tableFull
  | noSpare
  | already
  | notClosed
  | state
deriving DecidableEq, Repr, Inhabited

def PortReason.code : PortReason → Byte
  | .range => 1
  | .overlap => 2
  | .inUse => 3
  | .notSpared => 4
  | .tableFull => 5
  | .noSpare => 6
  | .already => 7
  | .notClosed => 8
  | .state => 9

/-- The refusal reason of a retirement request, as the service port and the event record carry it. -/
def RetireReason.toPort : RetireReason → PortReason
  | .notSpared => .notSpared
  | .tableFull => .tableFull
  | .noSpare => .noSpare
  | .already => .already

/-- The code of an event's kind (section 11.6); bit `code - 1` of the alert mask enables it. -/
def Event.kindCode : Event → Nat
  | .resetSeen _ => 1
  | .uncorrectable _ _ => 2
  | .retireStarted _ _ _ => 3
  | .retireRefused _ _ => 4
  | .moveDone _ _ => 5
  | .mirrorRepaired _ _ _ => 6
  | .mirrorSideFailed _ _ _ => 7
  | .resyncDone _ _ => 8
  | .requestRefused _ _ _ => 9
  | .refreshLate _ => 10
  | .patrolPass _ => 11
  | .logLost _ => 12

/-- The five bytes rank, bank, row (2), column. -/
def Loc.bytes (l : Loc) : List Byte := byte1 l.rank.val :: byte1 l.bank.val :: be16 l.row.val ++ [byte1 l.col.val]

/-- The four bytes rank, bank, row (2). -/
def PhysRow.bytes (r : PhysRow) : List Byte := byte1 r.rank.val :: byte1 r.bank.val :: be16 r.row.val

/-- The fields of an event from byte 3 of its record on (section 11.6). -/
def Event.fieldBytes : Event → List Byte
  | .resetSeen warm => [flagByte warm]
  | .uncorrectable src l => src.code :: l.bytes
  | .retireStarted slot r c => byte1 slot.val :: r.bytes ++ [c.code]
  | .retireRefused r why => r.bytes ++ [why.toPort.code]
  | .moveDone slot lost => [byte1 slot.val, byte1 lost]
  | .mirrorRepaired i x l => byte1 i.val :: x.code :: l.bytes
  | .mirrorSideFailed i x c => [byte1 i.val, x.code, c.code]
  | .resyncDone i lost => byte1 i.val :: be32 lost
  | .requestRefused tag why l => byte1 tag.val :: why.code :: l.bytes
  | .refreshLate k => [byte1 k.val]
  | .patrolPass n => bytes16 n
  | .logLost n => be16 n

/-- The bytes given, followed by 0x00 up to a length: bytes a kind does not use are sent as 0x00. -/
def padTo (n : Nat) (bs : List Byte) : List Byte := bs ++ List.replicate (n - bs.length) 0

/-- The twelve bytes of an event record (section 11.6). -/
def EventRecord.bytes (r : EventRecord) : List Byte :=
  padTo 12 (bytes16 r.seq ++ byte1 r.event.kindCode :: r.event.fieldBytes)

/-- The nine bytes of a region entry (section 11.6). -/
def RegionEntry.bytes (e : RegionEntry) : List Byte :=
  [flagByte e.valid, e.rank] ++ bytes16 e.first ++ bytes16 e.last ++ [e.policy.code, flagByte e.patrol, e.threshold]

/-- The service port's own address, with ADDR1 and ADDR0 sampled at power-on reset (R162). -/
def strapAddress (straps : BitVec 2) : BitVec 7 := 0x58#7 + straps.zeroExtend 7

end Sys2Proof.Machine
end

