-- ==== Sys2Proof/Machine/Flags.lean ====
section
/-! DEFINITION. The conditions the block computes: the read outcome of a stored line and what it counts
(R6, R8, R10), the alert condition (R158), the drained and drain conditions (R53, R149), the tests on a
mirror state (R116) and on an operation (R143). -/

namespace Sys2Proof.Machine

/-! ### The line check unit (sections 1.3 to 1.5) -/

/-- Check symbol `16 + j` of 64 data bytes (R4; log entry 3): the free choice of the code, changed in one bit where it
would give the poison pattern of R5, which the encoder never does. For 64 bytes of 0x00, which have the poison line's
data symbols, each check symbol differs from that line's: a write that carries data clears poison (R5). -/
def checkSymbol (d : LineData) (j : Fin 2) : BitVec 32 :=
  let free := Config.checkChoice d
  if d = zeroLine then
    if free j = Config.poisonSymbol j then free j ^^^ 1 else free j
  else if free 0 = Config.poisonSymbol 0 ∧ free 1 = Config.poisonSymbol 1 then free j ^^^ 1
  else free j

/-- Symbol `i` of the line a form is stored as (R4, R5): data symbol `i` is data bytes 4i to 4i + 3, the
first of them in the highest bits; symbols 16 and 17 are the check symbols. -/
def formSymbol (f : LineForm) (i : Fin 18) : BitVec 32 :=
  match f with
  | .data d =>
    if h : i.val < 16 then d[4 * i.val] ++ d[4 * i.val + 1] ++ d[4 * i.val + 2] ++ d[4 * i.val + 3]
    else checkSymbol d (Fin.ofNat 2 (i.val - 16))
  | .poison => if i.val < 16 then 0 else Config.poisonSymbol (Fin.ofNat 2 (i.val - 16))

/-- One symbol of 18 with some of its bits changed. -/
def flipSymbol (x : Fin 18 → BitVec 32) (j : Fin 18) (flips : BitVec 32) (i : Fin 18) : BitVec 32 :=
  if i = j then x i ^^^ flips else x i

/-- Symbol `i` of the 72 bytes of a stored line. -/
def lineSymbol (l : StoredLine) : Fin 18 → BitVec 32 :=
  match l with
  | .intact f => formSymbol f
  | .oneSymbol f j flips => flipSymbol (formSymbol f) j flips
  | .twoSymbols d j k x y => flipSymbol (flipSymbol (formSymbol (.data d)) j x) k y
  | .bytes raw => fun i => raw.extractLsb' (32 * (17 - i.val)) 32

/-- The data bytes of the 16 data symbols. -/
def dataOf (x : Fin 18 → BitVec 32) : LineData :=
  Vector.ofFn fun b : Fin 64 => (x (Fin.ofNat 18 (b.val / 4))).extractLsb' (8 * (3 - b.val % 4)) 8

/-- The symbols are those of the poison line, or differ from it in one symbol only: step 1 of R6. -/
def nearPoison (x : Fin 18 → BitVec 32) : Bool :=
  let off := (List.finRange 16).countP fun i => x (i.castLE (by omega)) != 0
  decide (off ≤ 1) &&
    decide (off + (List.finRange 2).countP (fun j => x (Fin.ofNat 18 (16 + j.val)) != Config.poisonSymbol j) ≤ 1)

/-- Check symbol `16 + j` agrees with the data symbols. -/
def checkAgrees (x : Fin 18 → BitVec 32) (j : Fin 2) : Bool :=
  x (Fin.ofNat 18 (16 + j.val)) == checkSymbol (dataOf x) j

/-- The check symbols agree with the data symbols: step 2 of R6. -/
def checksAgree (x : Fin 18 → BitVec 32) : Bool := checkAgrees x 0 && checkAgrees x 1

/-- One symbol of 18 replaced. -/
def putSymbol (x : Fin 18 → BitVec 32) (j : Fin 18) (v : BitVec 32) (i : Fin 18) : BitVec 32 :=
  if i = j then v else x i

/-- The data of a freshly encoded line that the symbols become when symbol `j` takes one of the first `n` values. -/
def valueSearch (x : Fin 18 → BitVec 32) (j : Fin 18) : Nat → Option LineData
  | 0 => none
  | n + 1 =>
    let y := putSymbol x j (BitVec.ofNat 32 n)
    if checksAgree y then some (dataOf y) else valueSearch x j n

/-- The data of a freshly encoded line that differs from the symbols in one symbol only, where there is one: step 3 of
R6. With one check symbol alone in disagreement it is the data as stored; else a data symbol is tried at each of its
values, the lowest symbol first (log entry 3). -/
def correctedData (x : Fin 18 → BitVec 32) : Option LineData :=
  if checkAgrees x 0 || checkAgrees x 1 then some (dataOf x)
  else (List.finRange 16).findSome? fun i => valueSearch x (i.castLE (by omega)) Config.symbolValues

/-- The outcome given with 64 bytes of 0x00 (R6). -/
def zeroReading (o : ReadOutcome) : Reading := { outcome := o, data := zeroLine }

/-- The four steps of R6 in their order, on the symbols of 72 bytes. -/
def classifySymbols (x : Fin 18 → BitVec 32) : Reading :=
  if nearPoison x then zeroReading .poison
  else if checksAgree x then { outcome := .clean, data := dataOf x }
  else match correctedData x with
    | some d => { outcome := .corrected, data := d }
    | none => zeroReading .uncorrectable

/-- The read outcome and the data delivered (R6). A line known by its errors is classified by the properties of the
code that R4 lists: it is the line as it was written (CLEAN or POISON), that line with one symbol in error, restored
exactly, or with two, detected and not restored; within one symbol of the poison line step 1 comes first. Any other 72
bytes go through the four steps (log entry 3). -/
def classify (l : StoredLine) : Reading :=
  match l with
  | .intact .poison => zeroReading .poison
  | .oneSymbol .poison _ _ => zeroReading .poison
  | .intact (.data d) => { outcome := .clean, data := d }
  | .oneSymbol (.data d) _ flips =>
    if flips = 0 then { outcome := .clean, data := d }
    else if nearPoison (lineSymbol l) then zeroReading .poison
    else { outcome := .corrected, data := d }
  | .twoSymbols _ i j x y =>
    if i = j ∨ x = 0 ∨ y = 0 then classifySymbols (lineSymbol l)
    else if nearPoison (lineSymbol l) then zeroReading .poison
    else zeroReading .uncorrectable
  | .bytes _ => classifySymbols (lineSymbol l)

/-- The outcome gives the line's data (CLEAN or CORRECTED). -/
def ReadOutcome.good : ReadOutcome → Bool
  | .clean => true
  | .corrected => true
  | .uncorrectable => false
  | .poison => false

/-- The host outcome of an answering rank read (R8). -/
def ReadOutcome.hostResult : ReadOutcome → ReadResult
  | .clean => .ok
  | .corrected => .corrected
  | .uncorrectable => .poisoned
  | .poison => .poisoned

/-- The host outcome of a read forwarded from a write queue entry (R8, R45). -/
def formResult : LineForm → ReadResult
  | .data _ => .ok
  | .poison => .poisoned

/-- The data of a read forwarded from a write queue entry (R8, R45). -/
def formData : LineForm → LineData
  | .data d => d
  | .poison => zeroLine

/-- The WRITE ACK outcome of a masked write whose merge gave the form (R48, R49, R50). -/
def formAck : LineForm → AckResult
  | .data _ => .done
  | .poison => .mergedPoison

/-- What a merge read delivers to its entry: data, or poison (R9, R50). -/
def Reading.form (r : Reading) : LineForm := if r.outcome.good then .data r.data else .poison

/-- A masked write merged from the form of the line it meets (R48, R49, R50): poison stays poison. -/
def mergeForm (base : LineForm) (enables : BitVec 64) (data : LineData) : LineForm :=
  match base with
  | .data d => .data (overlay enables data d)
  | .poison => .poison

/-- One more outcome counted for a rank (R10): CLEAN is not counted. -/
def OutcomeCounters.count (c : OutcomeCounters) : ReadOutcome → OutcomeCounters
  | .clean => c
  | .corrected => { c with corrected := satInc c.corrected }
  | .uncorrectable => { c with uncorrectable := satInc c.uncorrectable }
  | .poison => { c with poison := satInc c.poison }

/-- The counters after a rank read with the outcome on the rank (R10). -/
def Counters.countRead (c : Counters) (k : RankNo) (o : ReadOutcome) : Counters :=
  { c with outcomes := c.outcomes.set k (c.outcomes[k].count o) }

/-- The counters after a refusal with the reason (R54): CLOSED and QUIESCING have none. -/
def Counters.countRefusal (c : Counters) : FrontReason → Counters
  | .noCredit => { c with noCredit := satInc c.noCredit }
  | .tagInUse => { c with tagInUse := satInc c.tagInUse }
  | .badMask => { c with badMask := satInc c.badMask }
  | .pool => { c with pool := satInc c.pool }
  | .shadow => { c with shadow := satInc c.shadow }
  | .closedRegion => { c with closedRegion := satInc c.closedRegion }
  | .closed => c
  | .quiescing => c

/-! ### The alert condition (R158) -/

/-- The mask enables the event's kind (section 11.6: bit n − 1 for the kind with code n). -/
def enabledBy (mask : BitVec 16) (e : Event) : Bool := mask.getLsbD (e.kindCode - 1)

/-- The log holds a record of an enabled kind (R158). -/
def alertCondition (mask : BitVec 16) (records : List EventRecord) : Bool :=
  records.any fun r => enabledBy mask r.event

/-! ### Mirror states (R116) -/

/-- The side that host reads and merge reads are placed on (R64). -/
def MirrorState.readSide : MirrorState → Side
  | .duplex => .primary
  | .simplexPrimary => .primary
  | .simplexShadow => .shadow
  | .rebuildShadow => .primary
  | .rebuildPrimary => .shadow

/-- The shadow is serving: a failover read may be placed on it (R65). -/
def MirrorState.shadowServes : MirrorState → Bool
  | .duplex => true
  | .simplexPrimary => false
  | .simplexShadow => true
  | .rebuildShadow => false
  | .rebuildPrimary => true

/-- The side being rebuilt (R116). -/
def MirrorState.rebuilding : MirrorState → Option Side
  | .duplex => none
  | .simplexPrimary => none
  | .simplexShadow => none
  | .rebuildShadow => some .shadow
  | .rebuildPrimary => some .primary

/-- SIMPLEX of the side given. -/
def simplexOf : Side → MirrorState
  | .primary => .simplexPrimary
  | .shadow => .simplexShadow

/-- The count of a side (R116). -/
def MirrorRecord.count (m : MirrorRecord) : Side → Nat
  | .primary => m.primaryCount
  | .shadow => m.shadowCount

/-- One more on the count of a side, up to 4 (R117). -/
def MirrorRecord.raise (m : MirrorRecord) : Side → MirrorRecord
  | .primary => { m with primaryCount := min Config.sideLimit (m.primaryCount + 1) }
  | .shadow => { m with shadowCount := min Config.sideLimit (m.shadowCount + 1) }

/-! ### Operations at the rank ports (R68, R143) -/

/-- The classes of line operations (R143). -/
inductive OpClass where
  | host
  | move
  | patrol
deriving DecidableEq, Repr

/-- The class of a line operation (R143). -/
def OpKind.cls : OpKind → OpClass
  | .hostRead _ _ => .host
  | .mergeRead _ _ => .host
  | .failoverRead _ _ _ _ => .host
  | .entryWrite _ _ => .host
  | .repairWrite _ _ _ _ _ => .host
  | .moveRead => .move
  | .targetWrite _ => .move
  | .patrolRead _ => .patrol
  | .scrubWrite _ _ => .patrol

/-- The operation is a read (R143). -/
def OpKind.isRead : OpKind → Bool
  | .hostRead _ _ => true
  | .mergeRead _ _ => true
  | .failoverRead _ _ _ _ => true
  | .moveRead => true
  | .patrolRead _ => true
  | .entryWrite _ _ => false
  | .repairWrite _ _ _ _ _ => false
  | .targetWrite _ => false
  | .scrubWrite _ _ => false

/-- The operation is a repair write. -/
def OpKind.isRepair : OpKind → Bool
  | .repairWrite _ _ _ _ _ => true
  | _ => false

/-- The operation is a scrub write. -/
def OpKind.isScrub : OpKind → Bool
  | .scrubWrite _ _ => true
  | _ => false

/-- The operation is a restorative write (section 4.6). -/
def OpKind.restorative (o : OpKind) : Bool := o.isRepair || o.isScrub

/-- The read may supply a restorative write: a failover read or a patrol read (R67, R68). -/
def OpKind.supplies : OpKind → Bool
  | .failoverRead _ _ _ _ => true
  | .patrolRead _ => true
  | _ => false

/-- Where a supplying read is placed and where it may supply a write to, or where a restorative write goes
(R67, R68): the locations at which a placement notice reaches the operation. -/
def LineOp.reach (o : LineOp) : List Loc :=
  match o.kind with
  | .failoverRead _ _ _ _ => [o.loc, sideLoc .primary o.la]
  | .patrolRead .single => [o.loc]
  | .patrolRead .primary => [o.loc, sideLoc .shadow o.la]
  | .patrolRead .shadow => [o.loc, sideLoc .primary o.la]
  | _ => [o.loc]

/-! ### Rank slots (R142) -/

/-- All sixteen slots are idle (R142). -/
def RankSched.allIdle (r : RankSched) : Bool :=
  r.wide.isNone && r.banks.toList.all Option.isNone

/-- The slot of a bank is idle (R142): a rank-wide operation in progress makes every slot busy. -/
def RankSched.slotIdle (r : RankSched) (b : BankNo) : Bool := r.wide.isNone && r.banks[b].isNone

/-- The scheduler holds no line operation, placed or in progress (R149). -/
def RankSched.noLineOp (r : RankSched) : Bool := r.placed.isEmpty && r.banks.toList.all Option.isNone

/-- Self-refresh entry or exit is placed or in progress on the rank. -/
def RankSched.changing (r : RankSched) : Bool :=
  r.wide == some .entry || r.wide == some .exit || r.widePlaced == some .entry || r.widePlaced == some .exit

/-! ### Rest (R53, R109, R133, R149) -/

/-- The front link reports drained (R53). -/
def FrontLink.drained (f : FrontLink) : Bool :=
  f.tracker.isEmpty && f.queue.isEmpty && f.readOwed == 0 && f.writeOwed == 0

/-- The engine reports a line step in flight; a discarded one counts (R109). -/
def Engine.stepInFlight (e : Engine) : Bool :=
  match e.job with
  | none => false
  | some j => j.step.isSome

/-- The drain condition (R149). -/
def State.drainCondition (s : State) : Bool :=
  s.front.drained && !s.engine.stepInFlight && s.patrol.step.isNone && s.ranks.toList.all RankSched.noLineOp

/-- Read tracker and write queue are both empty (R35, R94, R95). -/
def FrontLink.empty (f : FrontLink) : Bool := f.tracker.isEmpty && f.queue.isEmpty

end Sys2Proof.Machine
end

