-- ==== Sys2Proof/Machine/Ops.lean ====
section
/-! DEFINITION. The named operations that the commands are written over: the stored lines, the event log,
the service port's answers, the rank schedulers' slots, and the notices of R68. -/

namespace Sys2Proof.Machine

/-! ### The stored lines (R4, R5, R7, R12) -/

/-- The stored line with the number given, where it has been written since power-on. -/
def Store.find : Store → Nat → Option StoredLine
  | [], _ => none
  | (k, l) :: rest, n => if k = n then some l else Store.find rest n

/-- The store after the line with the number given is replaced whole (R4). -/
def Store.write : Store → Nat → StoredLine → Store
  | [], n, l => [(n, l)]
  | (k, x) :: rest, n, l =>
    if n < k then (n, l) :: (k, x) :: rest
    else if n = k then (n, l) :: rest
    else (k, x) :: Store.write rest n l

/-- The line numbers rise strictly from a bound on. -/
def Store.risesFrom : Nat → Store → Bool
  | _, [] => true
  | lo, (k, _) :: rest => decide (lo ≤ k) && Store.risesFrom (k + 1) rest

/-- The canonical form: line numbers strictly rising (DESIGN CHOICE, log entry 5). -/
def Store.wf (m : Store) : Bool := Store.risesFrom 0 m

/-- What the rank holds at a location: the line last stored there, or, not written since power-on, the free
value of R12. -/
def State.lineAt (s : State) (l : Loc) : StoredLine :=
  match s.store.find l.number with
  | some x => x
  | none => Config.powerOnLine s.powerCycles l.number

/-- A rank write of a whole line (R4, R5). -/
def State.storeForm (s : State) (l : Loc) (f : LineForm) : State :=
  { s with store := s.store.write l.number (.intact f) }

/-- The rank's line has become `d` where the command says so (DESIGN CHOICE, log entry 4). -/
def State.disturbed (s : State) (l : Loc) (d : Option StoredLine) : State :=
  match d with
  | none => s
  | some x => { s with store := s.store.write l.number x }

/-! ### The event log (chapter 10) -/

/-- ALERT_N judged afresh (R158). -/
def EventLog.judged (l : EventLog) : EventLog := { l with alert := alertCondition l.mask l.records }

/-- A new record at the tail (R155). -/
def EventLog.append (l : EventLog) (e : Event) : EventLog :=
  { l with records := l.records ++ [{ seq := l.nextSeq, event := e }], nextSeq := l.nextSeq + 1 }

/-- An offer: stored while there is room, else lost and counted (R155). -/
def EventLog.offer (l : EventLog) (e : Event) : EventLog :=
  if l.records.length < Config.logSize then (l.append e).judged
  else { l with lost := min 65535 (l.lost + 1) }

/-- The log after the oldest record is popped, LOG_LOST appended where events were lost (R156, R157). -/
def EventLog.pop (l : EventLog) : EventLog :=
  let shorter := { l with records := l.records.tail }
  if l.lost = 0 then shorter.judged
  else { shorter.append (.logLost l.lost) with lost := 0 }.judged

/-- An event offered to the log. -/
def State.offer (s : State) (e : Event) : State := { s with log := s.log.offer e }

/-! ### Messages and answers -/

/-- A message to the memory controller (R33). -/
def State.send (s : State) (m : HostMsg) : State := { s with sent := s.sent ++ [m] }

/-- The current response frame replaced (R164, R166). -/
def State.respond (s : State) (r : Result) (payload : List Byte) : State :=
  { s with port := { s.port with response := frameBytes r.code payload } }

/-- OK with a payload. -/
def State.ok (s : State) (payload : List Byte) : State := s.respond .ok payload

/-- BAD_ARG. -/
def State.badArg (s : State) : State := s.respond .badArg []

/-- REFUSED with a reason and the index byte 0xFF (R167). -/
def State.refuse (s : State) (why : PortReason) : State := s.respond .refused [why.code, 0xFF]

/-- A service port command: not acknowledged while RESET_N is asserted (R162), else executed (R165). -/
def State.atPort (s : State) (f : State → State) : Host.Outcome State Fault Refusal :=
  .next (if s.resetN then s else f s)

/-- An event outside the rank ports: none of these happens while RESET_N is asserted (R39, R152; DEDUCED, log entry 9). -/
def State.live (s : State) (f : State → State) : Host.Outcome State Fault Refusal :=
  .next (if s.resetN then s else f s)

/-! ### Rank schedulers -/

/-- One rank scheduler changed. -/
def State.onRank (s : State) (k : RankNo) (f : RankSched → RankSched) : State :=
  { s with ranks := s.ranks.set k (f s.ranks[k]) }

/-- A line operation placed with the scheduler of its location's rank, youngest (R56, R143). -/
def State.place (s : State) (o : LineOp) : State :=
  s.onRank o.loc.rank fun r => { r with placed := r.placed ++ [o] }

/-- The line operation in progress on a bank (R142). -/
def State.inBank (s : State) (k : RankNo) (b : BankNo) : Option LineOp := s.ranks[k].banks[b]

/-- The bank's slot idle again: its operation has completed (R142). -/
def State.freeBank (s : State) (k : RankNo) (b : BankNo) : State :=
  s.onRank k fun r => { r with banks := r.banks.set b none }

/-- A rank read completes at its rank port: what the rank holds there is classified (R6), the stored line
stays as it is (R7), and the outcome is counted on the rank addressed (R10). -/
def State.sense (s : State) (l : Loc) (d : Option StoredLine) : State × Reading :=
  let s := s.disturbed l d
  let r := classify (s.lineAt l)
  ({ s with counters := s.counters.countRead l.rank r.outcome }, r)

/-! ### Notices (R68) -/

/-- The operation is for the line and a write at one of the places asked about reaches it. -/
def LineOp.hit (o : LineOp) (la : LineAddr) (there : Loc → Bool) : Bool :=
  decide (o.la = la) && o.reach.any there

/-- The superseded mark set. -/
def LineOp.mark (o : LineOp) : LineOp := { o with superseded := true }

/-- A placed operation under a notice: supplying reads and restorative writes are marked. -/
def LineOp.noticed (la : LineAddr) (there : Loc → Bool) (o : LineOp) : LineOp :=
  if (o.kind.supplies || o.kind.restorative) && o.hit la there then o.mark else o

/-- An operation in progress under a notice: supplying reads are marked. -/
def LineOp.noticedBusy (la : LineAddr) (there : Loc → Bool) (o : LineOp) : LineOp :=
  if o.kind.supplies && o.hit la there then o.mark else o

/-- A rank scheduler under a notice. -/
def RankSched.noticed (la : LineAddr) (there : Loc → Bool) (r : RankSched) : RankSched :=
  { r with placed := r.placed.map (LineOp.noticed la there)
           banks := mapV (Option.map (LineOp.noticedBusy la there)) r.banks }

/-- What a patrol step keeps to write later is marked like the operations it comes from (DEDUCED, log entry 7). -/
def PatrolStep.noticed (la : LineAddr) (there : Loc → Bool) (p : PatrolStep) : PatrolStep :=
  if p.la = la then
    { p with
      first := p.first.map fun f =>
        { f with superseded := f.superseded || there (sideLoc .primary la) || there (sideLoc .shadow la) }
      waiting := p.waiting.map fun w => { w with superseded := w.superseded || there w.loc } }
  else p

/-- A notice for a line, at the places asked about (R68). -/
def State.notice (s : State) (la : LineAddr) (there : Loc → Bool) : State :=
  { s with ranks := mapV (RankSched.noticed la there) s.ranks
           patrol := { s.patrol with step := s.patrol.step.map (PatrolStep.noticed la there) } }

/-- The supersede notice of an accepted host write: at every location (R40, R68). -/
def State.supersede (s : State) (la : LineAddr) : State := s.notice la fun _ => true

/-- A rank write of a write queue entry placed at a location, with its placement notice (R68). -/
def State.placeEntryWrite (la : LineAddr) (f : LineForm) (s : State) (l : Loc) : State :=
  (s.notice la fun x => decide (x = l)).place { kind := .entryWrite f (writeClass s.active la l), la := la, loc := l }

/-! ### Owed credits (R34, R36) -/

/-- Read credits owed while admission is OPEN, discarded while it is CLOSED. -/
def State.oweReads (s : State) (n : Nat) : State :=
  if s.front.admission = .opened then { s with front := { s.front with readOwed := s.front.readOwed + n } }
  else s

/-- One write credit owed while admission is OPEN, discarded while it is CLOSED. -/
def State.oweWrite (s : State) : State :=
  if s.front.admission = .opened then { s with front := { s.front with writeOwed := s.front.writeOwed + 1 } }
  else s

/-! ### Tables -/

/-- A slot changed (R76). -/
def State.setSlot (s : State) (i : SlotIx) (e : Option SlotEntry) : State :=
  { s with slots := s.slots.set i e }

/-- A mirror record changed (R116). -/
def State.setMirror (s : State) (i : RegionIx) (m : Option MirrorRecord) : State :=
  { s with mirrors := s.mirrors.set i m }

/-- The counters changed. -/
def State.onCounters (s : State) (f : Counters → Counters) : State := { s with counters := f s.counters }

end Sys2Proof.Machine
end

