-- ==== Sys2Proof/Machine/Router.lean ====
section
/-! DEFINITION. The request router (chapter 4): where a line is read and written at the moment of issue, the
placement of a write queue entry, and the forming of repair writes. -/

namespace Sys2Proof.Machine

/-! ### Looking up the tables -/

/-- The current location of a slot in use (R76). -/
def SlotEntry.currentRow (e : SlotEntry) : PhysRow := { e.home with row := e.current }

/-- The next location of a slot in use, present in PENDING and COPYING (R76). -/
def SlotEntry.nextRow (e : SlotEntry) : Option PhysRow :=
  match e.phase with
  | .pending n => some { e.home with row := n }
  | .copying n => some { e.home with row := n }
  | .active => none

/-- The slots in use, in ascending order of their numbers. -/
def State.slotsInUse (s : State) : List (SlotIx × SlotEntry) :=
  slotIxs.filterMap fun i => (s.slots[i]).map fun e => (i, e)

/-- The entry whose home row the row is, with its slot: the lookup of the router and of the patrol unit (R76). -/
def State.entryHomed (s : State) (r : PhysRow) : Option (SlotIx × SlotEntry) :=
  s.slotsInUse.find? fun x => decide (x.2.home = r)

/-- The job in progress for a reference; a closed job is no longer in progress for it (R112, R113). -/
def State.jobFor (s : State) (ref : JobRef) : Option Job :=
  match s.engine.job with
  | none => none
  | some j => if j.ref = ref ∧ j.closed = false then some j else none

/-- The progress pointer of the window, 0 where the job has not started (R60). -/
def State.windowP (s : State) (ref : JobRef) : Nat :=
  match s.jobFor ref with
  | none => 0
  | some j => j.p

/-- A line step without the discarded mark is in flight at the window's pointer (R60, R107). -/
def State.windowStepping (s : State) (ref : JobRef) : Bool :=
  match s.jobFor ref with
  | none => false
  | some j => match j.step with
    | none => false
    | some st => !st.discarded

/-! ### Where a write goes (R57 to R61, R64) -/

/-- The result of routing a write queue entry. -/
inductive WriteRoute where
  | stale
  | hold
  | places (locs : List Loc)
deriving DecidableEq, Repr

/-- The copy window on a write (R61). Below the pointer both locations are written; the rules do not say which of the
two rank writes is placed first, and so is the older with the scheduler where both are on one bank: the model places
the source's first (DESIGN CHOICE, log entry 26). -/
def windowWrite (position p : Nat) (stepping : Bool) (source target : Loc) : WriteRoute :=
  if position < p then .places [source, target]
  else if position = p ∧ stepping then .hold
  else .places [source]

/-- A write of a SPARED line (R59, R61). -/
def State.sparedWrite (s : State) (la : LineAddr) : WriteRoute :=
  match s.entryHomed (homeRow la) with
  | none => .places [homeLoc la]
  | some (i, e) =>
    match e.phase with
    | .pending _ => .places [e.currentRow.atCol (colOf la)]
    | .active => .places [e.currentRow.atCol (colOf la)]
    | .copying n =>
      windowWrite (colOf la).val (s.windowP (.rowMove i)) (s.windowStepping (.rowMove i))
        (e.currentRow.atCol (colOf la)) ({ e.home with row := n }.atCol (colOf la))

/-- A write of a MIRRORED line of a region (R61, R64). -/
def State.mirroredWrite (s : State) (i : RegionIx) (la : LineAddr) : WriteRoute :=
  match s.mirrors[i] with
  | none => .places [homeLoc la]
  | some m =>
    let position := s.active[i].positionOf la
    match m.state with
    | .duplex => .places [sideLoc .primary la, sideLoc .shadow la]
    | .simplexPrimary => .places [sideLoc .primary la]
    | .simplexShadow => .places [sideLoc .shadow la]
    | .rebuildShadow =>
      windowWrite position (s.windowP (.resync i)) (s.windowStepping (.resync i))
        (sideLoc .primary la) (sideLoc .shadow la)
    | .rebuildPrimary =>
      windowWrite position (s.windowP (.resync i)) (s.windowStepping (.resync i))
        (sideLoc .shadow la) (sideLoc .primary la)

/-- Where a write of a line would be placed at this moment (R57, R58, R59, R61, R64). -/
def State.writeRoute (s : State) (la : LineAddr) : WriteRoute :=
  match decodeRow s.active (homeRow la) with
  | .undecoded => .places [homeLoc la]
  | .shadow _ => .stale
  | .region i policy _ =>
    match policy with
    | .plain => .places [homeLoc la]
    | .spared => s.sparedWrite la
    | .mirrored => s.mirroredWrite i la
    | .pool => .stale
    | .closed => .stale

/-- A write of the line, routed at this moment, would be placed at the location (R69). -/
def State.wouldWrite (s : State) (la : LineAddr) (l : Loc) : Bool :=
  match s.writeRoute la with
  | .places locs => locs.contains l
  | .hold => false
  | .stale => false

/-! ### Where a read goes (R57 to R60, R64) -/

/-- The routing class and location of a host read or merge read of a line at this moment. -/
def State.readRoute (s : State) (la : LineAddr) : RouteClass × Loc :=
  match decodeRow s.active (homeRow la) with
  | .undecoded => (.plain, homeLoc la)
  | .shadow _ => (.stale, homeLoc la)
  | .region i policy _ =>
    match policy with
    | .plain => (.plain, homeLoc la)
    | .pool => (.stale, homeLoc la)
    | .closed => (.stale, homeLoc la)
    | .spared =>
      match s.entryHomed (homeRow la) with
      | none => (.spared i, homeLoc la)
      | some (_, e) => (.spared i, e.currentRow.atCol (colOf la))
    | .mirrored =>
      match s.mirrors[i] with
      | none => (.plain, homeLoc la)
      | some m =>
        (.mirrored i m.state.readSide (decide (m.state = .duplex)) m.born, sideLoc m.state.readSide la)

/-! ### Placing a write queue entry (R51, R58, R61) -/

/-- The first element that satisfies a test is replaced. -/
def replaceFirst {α : Type} (test : α → Bool) (f : α → α) : List α → List α
  | [] => []
  | x :: xs => if test x then f x :: xs else x :: replaceFirst test f xs

/-- The oldest write queue entry for a line (R46). -/
def State.oldestEntry (s : State) (la : LineAddr) : Option QueueEntry :=
  s.front.queue.find? fun e => decide (e.la = la)

/-- The newest write queue entry for a line (R46). -/
def State.newestEntry (s : State) (la : LineAddr) : Option QueueEntry :=
  s.front.queue.reverse.find? fun e => decide (e.la = la)

/-- The write queue changed. -/
def State.setQueue (s : State) (q : List QueueEntry) : State := { s with front := { s.front with queue := q } }

/-- The state of the oldest entry for a line changed. -/
def State.setOldest (s : State) (la : LineAddr) (st : EntryState) : State :=
  s.setQueue (replaceFirst (fun e => decide (e.la = la)) (fun e => { e with state := st }) s.front.queue)

/-- The oldest entry for a line leaves the queue, and its write credit is owed (R52, R58). -/
def State.dropOldest (s : State) (la : LineAddr) : State :=
  (s.setQueue (s.front.queue.eraseP fun e => decide (e.la = la))).oweWrite

/-- The line step in flight takes a held entry (R107). -/
def State.holdOnStep (s : State) (la : LineAddr) : State :=
  { s with engine := { s.engine with
      job := s.engine.job.map fun j => { j with step := j.step.map fun st => { st with held := some la } } } }

/-- The oldest entry for a line, holding `f`, is passed to the router, which places it, holds it or retires
it as STALE (R51, R58, R61). -/
def State.passEntry (s : State) (la : LineAddr) (f : LineForm) : State :=
  match s.writeRoute la with
  | .stale => s.dropOldest la
  | .hold => (s.setOldest la (.held f)).holdOnStep la
  | .places locs => (locs.foldl (State.placeEntryWrite la f) s).setOldest la (.issued f locs.length)

/-- The release of a held entry: the front link passes it to the router again at once (R51, R107). -/
def State.releaseHeld (s : State) (held : Option LineAddr) : State :=
  match held with
  | none => s
  | some la =>
    match s.oldestEntry la with
    | some { state := .held f, .. } => s.passEntry la f
    | _ => s

/-! ### Repair writes (R67) -/

/-- A repair write formed at the completion of its supplying read: placed in the HOST class, or dropped and
counted when 15 repair writes are held for its rank. The flag says whether it was placed. -/
def State.formRepair (s : State) (la : LineAddr) (region : RegionIx) (side : Side) (data : LineData)
    (superseded patrol : Bool) : State × Bool :=
  let l := sideLoc side la
  if (s.ranks[l.rank].placed.filter fun o => o.kind.isRepair).length < Config.repairPlaces then
    (s.place { kind := .repairWrite data region side patrol (writeClass s.active la l), la := la, loc := l,
               superseded := superseded },
      true)
  else (s.onCounters fun c => { c with repairsDropped := satInc c.repairsDropped }, false)

end Sys2Proof.Machine
end

