-- ==== Sys2Proof/Machine/Substitution.lean ====
section
/-! DEFINITION. Retirement requests and what they reach: the substitution table and its spare cursors
(chapter 5), the restart and closing of the job in progress (R111 to R113), the error tracker (R138 to
R140) and side-count reports (R117, R118). -/

namespace Sys2Proof.Machine

/-! ### The job in progress under a restart or a closing (R111, R112, R113) -/

/-- The step in flight marked discarded; its held entry is released by the caller (R107), and what it added to the
lines lost is taken back by the caller (R90). -/
def LineStep.discard (st : LineStep) : LineStep := { st with discarded := true, held := none, lost := false }

/-- What the step in flight has added to the job's lines lost (R105). -/
def Job.lossInFlight (j : Job) : Nat :=
  match j.step with
  | none => 0
  | some st => if st.lost then 1 else 0

/-- The held entry of the job's step. -/
def Job.heldLine (j : Job) : Option LineAddr :=
  match j.step with
  | none => none
  | some st => st.held

/-- The job in progress restarted toward a new target: p 0, lines lost 0, the step in flight discarded and
its held entry released (R111). -/
def State.restartJob (s : State) (ref : JobRef) (source target : PhysRow) : State :=
  match s.jobFor ref with
  | none => s
  | some j =>
    { s with engine := { s.engine with
        job := some { j with ends := .rows source target, p := 0, lost := 0,
                             step := j.step.map LineStep.discard } } }.releaseHeld j.heldLine

/-- The job in progress abandoned or cancelled: dropped at once with no step in flight, else closed until its
discarded step ends, which adds nothing to the lines lost (R90); its held entry is released (R112, R113). -/
def State.closeJob (s : State) (ref : JobRef) : State :=
  match s.jobFor ref with
  | none => s
  | some j =>
    match j.step with
    | none => { s with engine := { s.engine with mode := .idle, job := none } }
    | some st =>
      { s with engine := { s.engine with
          job := some { j with step := some st.discard, lost := j.lost - j.lossInFlight, closed := true } } }.releaseHeld
        st.held

/-- A reference appended at the tail of the job queue (R99). -/
def State.appendJob (s : State) (ref : JobRef) : State :=
  { s with engine := { s.engine with queue := s.engine.queue ++ [ref] } }

/-- A reference removed from the job queue; the others keep their order (R99). -/
def State.removeJob (s : State) (ref : JobRef) : State :=
  { s with engine := { s.engine with queue := s.engine.queue.erase ref } }

/-! ### Spare rows (R80) -/

/-- The spare that an allocation for the rank and bank takes, and the state after it; `none`: NO_SPARE. -/
def State.allocate (s : State) (k : RankNo) (b : BankNo) : Option (RowNo × State) :=
  match spareAt s.active k s.cursors[cursorIx k b] with
  | none => none
  | some r => some (r, { s with cursors := s.cursors.set (cursorIx k b) (s.cursors[cursorIx k b] + 1) })

/-- The lowest-numbered FREE slot (R80). -/
def State.freeSlot (s : State) : Option SlotIx := slotIxs.find? fun i => s.slots[i].isNone

/-! ### Retirement requests (R81 to R88) -/

/-- The action of an accepted request (R88). -/
inductive Action where
  | new
  | retarget
  | replace
deriving DecidableEq, Repr

def Action.code : Action → Byte
  | .new => 0
  | .retarget => 1
  | .replace => 2

/-- The answer of the substitution table to a retirement request. -/
inductive RetireAnswer where
  | accepted (slot : SlotIx) (action : Action) (spare : RowNo)
  | refused (why : RetireReason)
  | merged
deriving DecidableEq, Repr

/-- The error tracker told to remove any entry for a row (R88, R139). -/
def State.forgetRow (s : State) (r : PhysRow) : State :=
  { s with tracker := s.tracker.filter fun e => decide (e.row ≠ r) }

/-- A request accepted: RETIRE_STARTED offered, the tracker told (R88). -/
def State.acceptRetire (s : State) (i : SlotIx) (r : PhysRow) (c : Cause) (a : Action) (spare : RowNo) :
    State × RetireAnswer :=
  ((s.offer (.retireStarted i r c)).forgetRow r, .accepted i a spare)

/-- A request refused: RETIRE_REFUSED offered for an internal source only (R82, R83, R86, R87). -/
def State.refuseRetire (s : State) (fromPort : Bool) (r : PhysRow) (why : RetireReason) : State × RetireAnswer :=
  (if fromPort then s else s.offer (.retireRefused r why), .refused why)

/-- Case (b) with the entry ACTIVE: re-target (R83). -/
def State.retarget (s : State) (fromPort : Bool) (r : PhysRow) (i : SlotIx) (e : SlotEntry) :
    State × RetireAnswer :=
  match s.allocate e.home.rank e.home.bank with
  | none => s.refuseRetire fromPort r .noSpare
  | some (spare, s) =>
    ((s.setSlot i (some { e with phase := .pending spare, cause := .targetFailed, lost := 0 })).appendJob
      (.rowMove i)).acceptRetire i r .targetFailed .retarget spare

/-- The cause of an entry whose next location is replaced (R85). -/
def replacedCause (e : SlotEntry) : Cause := if e.current ≠ e.home.row then .targetFailed else e.cause

/-- The slot of an abandoned move: FREE at its home row, or ACTIVE at its current location (R86). -/
def abandonedSlot (e : SlotEntry) : Option SlotEntry :=
  if e.current = e.home.row then none else some { e with phase := .active }

/-- The entry of an abandoned copy with the count the copy had reached: the step in flight, discarded, adds nothing to
it (R86, R90, R112; DEDUCED, log entry 28). -/
def State.countReached (s : State) (i : SlotIx) (e : SlotEntry) : SlotEntry :=
  match s.jobFor (.rowMove i) with
  | none => e
  | some j => { e with lost := e.lost - j.lossInFlight }

/-- Case (c): the next location has failed; replaced by a new spare (R85), or the move abandoned (R86). -/
def State.replaceTarget (s : State) (fromPort : Bool) (r : PhysRow) (i : SlotIx) (e : SlotEntry) :
    State × RetireAnswer :=
  match s.allocate e.home.rank e.home.bank with
  | some (spare, s) =>
    match e.phase with
    | .copying _ =>
      ((s.setSlot i (some { e with phase := .copying spare, cause := replacedCause e, lost := 0 })).restartJob
        (.rowMove i) e.currentRow { e.home with row := spare }).acceptRetire i r (replacedCause e) .replace spare
    | _ =>
      (s.setSlot i (some { e with phase := .pending spare, cause := replacedCause e, lost := 0 })).acceptRetire
        i r (replacedCause e) .replace spare
  | none =>
    match e.phase with
    | .copying _ =>
      ((s.setSlot i (abandonedSlot (s.countReached i e))).closeJob (.rowMove i)).refuseRetire fromPort r .noSpare
    | _ => ((s.setSlot i (abandonedSlot e)).removeJob (.rowMove i)).refuseRetire fromPort r .noSpare

/-- The row decodes to SPARED under the active table (R87, R21). -/
def State.rowSpared (s : State) (r : PhysRow) : Bool :=
  match decodeRow s.active r with
  | .region _ .spared _ => true
  | _ => false

/-- Case (d): a new retirement, after its three checks (R87). -/
def State.newRetirement (s : State) (fromPort : Bool) (c : Cause) (r : PhysRow) : State × RetireAnswer :=
  if s.rowSpared r then
    match s.freeSlot with
    | none => s.refuseRetire fromPort r .tableFull
    | some i =>
      match s.allocate r.rank r.bank with
      | none => s.refuseRetire fromPort r .noSpare
      | some (spare, s) =>
        ((s.setSlot i (some { home := r, current := r.row, phase := .pending spare, cause := c, lost := 0 })
          ).appendJob (.rowMove i)).acceptRetire i r c .new spare
  else s.refuseRetire fromPort r .notSpared

/-- The part a row plays among the entries in use (R81). -/
inductive RowPart where
  | movedHome
  | current (slot : SlotIx) (entry : SlotEntry)
  | next (slot : SlotIx) (entry : SlotEntry)
  | none
deriving DecidableEq, Repr

/-- The sorting of R81, its cases (a), (b), (c), (d) in that order. -/
def State.partOf (s : State) (r : PhysRow) : RowPart :=
  if s.slotsInUse.any fun x => decide (x.2.home = r ∧ x.2.currentRow ≠ r) then .movedHome
  else
    match s.slotsInUse.find? fun x => decide (x.2.currentRow = r) with
    | some (i, e) => .current i e
    | none =>
      match s.slotsInUse.find? fun x => decide (x.2.nextRow = some r) with
      | some (i, e) => .next i e
      | none => .none

/-- A retirement request for a row (R81 to R88). `fromPort`: it comes from RETIRE_ROW, else from an internal
source. -/
def State.retire (s : State) (fromPort : Bool) (c : Cause) (r : PhysRow) : State × RetireAnswer :=
  match s.partOf r with
  | .movedHome => s.refuseRetire fromPort r .already
  | .current i e =>
    match e.phase with
    | .active => s.retarget fromPort r i e
    | _ => (s, .merged)
  | .next i e => s.replaceTarget fromPort r i e
  | .none => s.newRetirement fromPort c r

/-- A retirement request from an internal source. -/
def State.retireInternal (s : State) (c : Cause) (r : PhysRow) : State := (s.retire false c r).1

/-! ### The error tracker (R138, R139, R140) -/

/-- The lowest count in the list (R138). -/
def lowestCount : List TrackerEntry → Nat
  | [] => 0
  | [e] => e.count
  | e :: es => min e.count (lowestCount es)

/-- The list with room for a new entry: a full list gives up the oldest of its lowest counts (R138). -/
def trackerRoom (t : List TrackerEntry) : List TrackerEntry :=
  if t.length < Config.trackerSize then t
  else t.eraseP fun e => decide (e.count = lowestCount t)

/-- The threshold that a count is compared with: that of the active entry at the recorded index (R21). -/
def State.thresholdAt (s : State) (i : RegionIx) : Nat := s.active[i].threshold.toNat

/-- A corrected report for a row read in a region (R138, R139). -/
def State.correctedReport (s : State) (r : PhysRow) (i : RegionIx) : State :=
  if s.active[i].valid ∧ s.active[i].policy = .spared then
    match s.tracker.find? fun e => decide (e.row = r) with
    | some e =>
      let n := min 255 (e.count + 1)
      if n = s.thresholdAt e.region then (s.forgetRow r).retireInternal .threshold r
      else
        { s with tracker := replaceFirst (fun x => decide (x.row = r)) (fun x => { x with count := n }) s.tracker }
    | none =>
      if s.thresholdAt i = 1 then s.retireInternal .threshold r
      else { s with tracker := trackerRoom s.tracker ++ [{ row := r, region := i, count := 1 }] }
  else s

/-- Decay at the end of a patrol pass (R140). -/
def decay (t : List TrackerEntry) : List TrackerEntry :=
  (t.map fun e => { e with count := e.count / 2 }).filter fun e => decide (e.count ≠ 0)

/-! ### Side counts (R117, R118) -/

/-- A side-count report, from a read of the record created by commit `born` (R31, R117, R118). -/
def State.sideReport (s : State) (i : RegionIx) (x : Side) (born : Nat) : State :=
  match s.mirrors[i] with
  | none => s
  | some m =>
    if m.born ≠ born then s
    else if m.state = .duplex ∧ m.count x < Config.sideLimit ∧ (m.raise x).count x = Config.sideLimit then
      (s.setMirror i (some { m.raise x with state := simplexOf x.other })).offer (.mirrorSideFailed i x .threshold)
    else s.setMirror i (some (m.raise x))

end Sys2Proof.Machine
end

