-- ==== Sys2Proof/Machine/FrontLink.lean ====
section
/-! DEFINITION. The front link (chapter 3): READ, WRITE, MASKED_WRITE, CREDIT, ISSUE_READ, MERGE_READ_ISSUE and
WRITE_ENTRY_ISSUE, and the answers that complete requests. -/

namespace Sys2Proof.Machine

/-! ### Answers -/

/-- READ DATA for a tracked read, which leaves the tracker; its tag is free and its credit owed (R44). -/
def State.answerRead (s : State) (tag : Tag) (data : LineData) (result : ReadResult) : State :=
  if s.front.tracker.any fun t => decide (t.tag = tag) then
    let s := s.send (.readData tag data result)
    { s with front := { s.front with tracker := s.front.tracker.eraseP fun t => decide (t.tag = tag) } }.oweReads 1
  else s

/-- A tracked read is HELD_FOR_MERGE on the entry that held the tag (R43, R45). -/
def TrackedRead.heldOn (entryTag : Tag) (t : TrackedRead) : Bool := decide (t.state = .heldForMerge entryTag)

/-- The completion of the merge of the entry that held `tag`, now holding `f`: its WRITE ACK, then READ DATA for
every read held for the merge (R45, R50). -/
def State.answerMerge (s : State) (tag : Tag) (f : LineForm) : State :=
  let s := s.send (.writeAck tag (formAck f))
  let reads := s.front.tracker.filter (TrackedRead.heldOn tag)
  let s := reads.foldl (fun s t => s.send (.readData t.tag (formData f) (formResult f))) s
  { s with front := { s.front with tracker := s.front.tracker.filter fun t => !t.heldOn tag } }.oweReads reads.length

/-- From the entry whose merge completes on: each MERGING entry of the line merges from the one before it
and becomes QUEUED (R49 case 2, R50). The second part lists the tags freed, with the forms. -/
def mergeChain (la : LineAddr) (base : LineForm) : List QueueEntry → List QueueEntry × List (Tag × LineForm)
  | [] => ([], [])
  | e :: es =>
    if e.la = la then
      match e.state with
      | .merging tag enables data _ =>
        let f := mergeForm base enables data
        let rest := mergeChain la f es
        ({ e with state := .queued f } :: rest.1, (tag, f) :: rest.2)
      | _ => (e :: es, [])
    else
      let rest := mergeChain la base es
      (e :: rest.1, rest.2)

/-- The entry is MERGING and holds the tag. -/
def QueueEntry.mergingWith (tag : Tag) (e : QueueEntry) : Bool :=
  match e.state with
  | .merging t _ _ _ => decide (t = tag)
  | _ => false

/-- The queue after the merge of the entry that holds `tag` completes on `base`, and the tags freed. -/
def mergeFrom (tag : Tag) (base : LineForm) : List QueueEntry → List QueueEntry × List (Tag × LineForm)
  | [] => ([], [])
  | e :: es =>
    if e.mergingWith tag then mergeChain e.la base (e :: es)
    else
      let rest := mergeFrom tag base es
      (e :: rest.1, rest.2)

/-- The completion of a merge read's answer: the entry and those waiting on it become QUEUED, in creation
order, each answered (R50). -/
def State.completeMerge (s : State) (tag : Tag) (base : LineForm) : State :=
  let merged := mergeFrom tag base s.front.queue
  merged.2.foldl (fun s x => s.answerMerge x.1 x.2) (s.setQueue merged.1)

/-! ### Acceptance (R39 to R42) -/

/-- The tag is held by an outstanding request (R42). -/
def FrontLink.tagHeld (f : FrontLink) (tag : Tag) : Bool :=
  (f.tracker.any fun t => decide (t.tag = tag)) || f.queue.any (QueueEntry.mergingWith tag)

/-- The reason of the sixth check (R19, R39). -/
def decodeRefusal : Decoded → Option FrontReason
  | .region _ .pool _ => some .pool
  | .region _ .closed _ => some .closedRegion
  | .region _ .plain _ => none
  | .region _ .spared _ => none
  | .region _ .mirrored _ => none
  | .shadow _ => some .shadow
  | .undecoded => none

/-- The six checks in their order: the reason of the first that fails (R39). `balance` is that of the
request's kind; `badMask`: a MASKED WRITE with no byte enabled. -/
def State.check (s : State) (tag : Tag) (la : LineAddr) (balance : Nat) (badMask : Bool) : Option FrontReason :=
  if s.front.admission = .closed then some .closed
  else if s.quiesce ≠ .run then some .quiescing
  else if balance = 0 then some .noCredit
  else if s.front.tagHeld tag then some .tagInUse
  else if badMask then some .badMask
  else decodeRefusal (decodeRow s.active (homeRow la))

/-- The reason is counted and logged (R41). -/
def FrontReason.recorded : FrontReason → Bool
  | .closed => false
  | .quiescing => false
  | .noCredit => true
  | .tagInUse => true
  | .badMask => true
  | .pool => true
  | .shadow => true
  | .closedRegion => true

/-- A request refused (R41, R54). -/
def State.refuseRequest (s : State) (tag : Tag) (la : LineAddr) (why : FrontReason) : State :=
  let s := s.send (.refusal tag why)
  if why.recorded then
    (s.onCounters fun c => c.countRefusal why).offer (.requestRefused tag why (homeLoc la))
  else s

/-- One read credit taken (R36). -/
def State.takeRead (s : State) : State :=
  { s with front := { s.front with readBalance := s.front.readBalance - 1 } }

/-- One write credit taken, and the supersede notice given (R36, R40). -/
def State.takeWrite (s : State) (la : LineAddr) : State :=
  { s with front := { s.front with writeBalance := s.front.writeBalance - 1 } }.supersede la

/-- A read entered in the tracker (R43). -/
def State.track (s : State) (tag : Tag) (la : LineAddr) (st : ReadState) : State :=
  { s with front := { s.front with tracker := s.front.tracker ++ [{ tag := tag, la := la, state := st }] } }

/-- A new write queue entry at the tail (R46). -/
def State.enqueue (s : State) (la : LineAddr) (st : EntryState) : State :=
  s.setQueue (s.front.queue ++ [{ la := la, state := st }])

/-- The newest entry for a line takes a new state (R47, R48). -/
def State.setNewest (s : State) (la : LineAddr) (st : EntryState) : State :=
  s.setQueue (replaceFirst (fun e => decide (e.la = la)) (fun e => { e with state := st })
    s.front.queue.reverse).reverse

/-- An accepted READ: forwarded, held for a merge, or WAITING (R43, R45). -/
def State.acceptRead (s : State) (tag : Tag) (la : LineAddr) : State :=
  let s := s.takeRead
  match s.newestEntry la with
  | none => s.track tag la .waiting
  | some e =>
    match e.state with
    | .merging entryTag _ _ _ => s.track tag la (.heldForMerge entryTag)
    | .queued f => (s.send (.readData tag (formData f) (formResult f))).oweReads 1
    | .held f => (s.send (.readData tag (formData f) (formResult f))).oweReads 1
    | .issued f _ => (s.send (.readData tag (formData f) (formResult f))).oweReads 1

/-- An accepted WRITE: coalesced, or a new entry; WRITE ACK DONE either way (R40, R47). -/
def State.acceptWrite (s : State) (tag : Tag) (la : LineAddr) (data : LineData) : State :=
  let s := (s.takeWrite la).send (.writeAck tag .done)
  match s.newestEntry la with
  | some { state := .queued _, .. } => (s.setNewest la (.queued (.data data))).oweWrite
  | _ => s.enqueue la (.queued (.data data))

/-- An accepted MASKED WRITE that keeps its kind: coalesced (R48), merged at once from a HELD or ISSUED entry, or
MERGING (R49). -/
def State.acceptMasked (s : State) (tag : Tag) (la : LineAddr) (enables : BitVec 64) (data : LineData) : State :=
  let s := s.takeWrite la
  match s.newestEntry la with
  | none => s.enqueue la (.merging tag enables data false)
  | some e =>
    match e.state with
    | .merging _ _ _ _ => s.enqueue la (.merging tag enables data false)
    | .queued f =>
      let g := mergeForm f enables data
      ((s.send (.writeAck tag (formAck g))).setNewest la (.queued g)).oweWrite
    | .held f =>
      let g := mergeForm f enables data
      (s.send (.writeAck tag (formAck g))).enqueue la (.queued g)
    | .issued f _ =>
      let g := mergeForm f enables data
      (s.send (.writeAck tag (formAck g))).enqueue la (.queued g)

/-- A READ arrives. -/
def State.takeReadRequest (s : State) (tag : Tag) (la : LineAddr) : State :=
  match s.check tag la s.front.readBalance false with
  | some why => s.refuseRequest tag la why
  | none => s.acceptRead tag la

/-- A WRITE arrives. -/
def State.takeWriteRequest (s : State) (tag : Tag) (la : LineAddr) (data : LineData) : State :=
  match s.check tag la s.front.writeBalance false with
  | some why => s.refuseRequest tag la why
  | none => s.acceptWrite tag la data

/-- A MASKED WRITE that keeps its kind arrives. -/
def State.takeMaskedRequest (s : State) (tag : Tag) (la : LineAddr) (enables : BitVec 64) (data : LineData) :
    State :=
  match s.check tag la s.front.writeBalance (enables == 0) with
  | some why => s.refuseRequest tag la why
  | none => s.acceptMasked tag la enables data

/-! ### Issue (R44, R49, R51) -/

/-- The tracked read of a tag changed. -/
def State.setRead (s : State) (tag : Tag) (st : ReadState) : State :=
  { s with front := { s.front with
      tracker := replaceFirst (fun t => decide (t.tag = tag)) (fun t => { t with state := st }) s.front.tracker } }

/-- The issue of the WAITING read with the tag: placed where the router chooses (R44, R57, R64). -/
def State.issueWaiting (s : State) (tag : Tag) : State :=
  match s.front.tracker.find? fun t => decide (t.tag = tag) with
  | some { state := .waiting, la := la, .. } =>
    let route := s.readRoute la
    (s.place { kind := .hostRead tag route.1, la := la, loc := route.2 }).setRead tag .issued
  | _ => s

/-- The issue of the merge read of the MERGING entry with the tag, which has no older entry for its line and
whose merge read has not been issued (R49 case 3). -/
def State.issueMergeRead (s : State) (tag : Tag) : State :=
  match s.front.queue.find? (QueueEntry.mergingWith tag) with
  | none => s
  | some e =>
    match s.oldestEntry e.la with
    | some { la := la, state := .merging t enables data false } =>
      if t = tag then
        let route := s.readRoute la
        (s.place { kind := .mergeRead tag route.1, la := la, loc := route.2 }).setOldest la
          (.merging tag enables data true)
      else s
    | _ => s

/-- No READ of the line is WAITING or ISSUED: the write-after-read hazard of R51. A READ accepted after an entry's
creation is forwarded or held, so every such READ was accepted before the entry. -/
def FrontLink.noEarlierRead (f : FrontLink) (la : LineAddr) : Bool :=
  f.tracker.all fun t => decide (t.la ≠ la) || !(decide (t.state = .waiting) || decide (t.state = .issued))

/-- The issue of the ready entry for a line: the oldest for it, QUEUED, with no hazard (R51). -/
def State.issueEntry (s : State) (la : LineAddr) : State :=
  match s.oldestEntry la with
  | some { state := .queued f, .. } => if s.front.noEarlierRead la then s.passEntry la f else s
  | _ => s

/-! ### Credits (R37, R38) -/

/-- The CREDIT that folds the owed counts into the balances (R37). -/
def State.sendCredit (s : State) : State :=
  if s.front.admission = .opened ∧ s.front.creditsStarted = true ∧ 0 < s.front.readOwed + s.front.writeOwed then
    { s.send (.credit s.front.readOwed s.front.writeOwed false) with
      front := { s.front with
        readBalance := s.front.readBalance + s.front.readOwed
        writeBalance := s.front.writeBalance + s.front.writeOwed
        readOwed := 0
        writeOwed := 0 } }
  else s

/-- The initial CREDIT: 32 and 24, and the balances set to the same (R35, R38). -/
def State.initialCredit (s : State) : State :=
  { s.send (.credit Config.readCredits Config.writeCredits true) with
    front := { s.front with readBalance := Config.readCredits, writeBalance := Config.writeCredits } }

/-! ### The commands -/

/-- READ (R39, R40, R43, R45). -/
def execRead (tag : Tag) (la : LineAddr) (s : State) : Host.Outcome State Fault Refusal :=
  s.live fun s => s.takeReadRequest tag la

/-- WRITE (R39, R40, R47). -/
def execWrite (tag : Tag) (la : LineAddr) (data : LineData) (s : State) : Host.Outcome State Fault Refusal :=
  s.live fun s => s.takeWriteRequest tag la data

/-- MASKED_WRITE: with all 64 flags on it is taken as a WRITE (R32); else R39, R40, R48, R49. -/
def execMaskedWrite (tag : Tag) (la : LineAddr) (enables : BitVec 64) (data : LineData) (s : State) :
    Host.Outcome State Fault Refusal :=
  s.live fun s =>
    if enables = BitVec.allOnes 64 then s.takeWriteRequest tag la data
    else s.takeMaskedRequest tag la enables data

/-- CREDIT (R37). -/
def execCredit (s : State) : Host.Outcome State Fault Refusal := s.live State.sendCredit

/-- ISSUE_READ (R44). -/
def execIssueRead (tag : Tag) (s : State) : Host.Outcome State Fault Refusal := s.live fun s => s.issueWaiting tag

/-- MERGE_READ_ISSUE (R49). -/
def execMergeReadIssue (tag : Tag) (s : State) : Host.Outcome State Fault Refusal :=
  s.live fun s => s.issueMergeRead tag

/-- WRITE_ENTRY_ISSUE (R51). -/
def execWriteEntryIssue (la : LineAddr) (s : State) : Host.Outcome State Fault Refusal :=
  s.live fun s => s.issueEntry la

end Sys2Proof.Machine
end

