-- ==== Sys2Proof/Machine/Quiesce.lean ====
section
/-! DEFINITION. The quiesce controller and the resets (sections 9.4 and 9.5, and the reset rules of every chapter):
QREQ_N_ASSERT, QREQ_N_DEASSERT, DRAIN_COMPLETE, SELF_REFRESH_ENTRY_COMPLETE, SELF_REFRESH_EXIT_COMPLETE,
RANK_INIT_COMPLETE, POWER_ON_RESET, WARM_RESET_ASSERT and WARM_RESET_RELEASE. -/

namespace Sys2Proof.Machine

/-! ### Entering and leaving RUN -/

/-- A PAUSED engine becomes RUNNING (R110). -/
def Engine.resume (e : Engine) : Engine := if e.mode = .paused then { e with mode := .running } else e

/-- A RUNNING engine with no step in flight becomes PAUSED (R109). -/
def Engine.pause (e : Engine) : Engine :=
  if e.mode = .running ∧ e.stepInFlight = false then { e with mode := .paused } else e

/-- The first arrival at RUN after a reset: credits start, and with admission OPEN the initial CREDIT goes out
(R38). -/
def State.startCredits (s : State) : State :=
  if s.front.creditsStarted then s
  else
    let s := { s with front := { s.front with creditsStarted := true } }
    if s.front.admission = .opened then s.initialCredit else s

/-- The controller enters RUN (R38, R110, R148, R149, R151). -/
def State.enterRun (s : State) : State :=
  State.startCredits { s with quiesce := .run, engine := s.engine.resume }

/-- The controller enters DRAINING (R109, R149). -/
def State.enterDraining (s : State) : State :=
  { s with quiesce := .draining, engine := s.engine.pause }

/-- RUN, or DRAINING if QREQ_N is asserted (R148, R151, R152). -/
def State.enterByRequest (s : State) : State := if s.qreq then s.enterDraining else s.enterRun

/-- Every rank scheduler changed. -/
def State.onRanks (s : State) (f : RankSched → RankSched) : State := { s with ranks := mapV f s.ranks }

/-- A rank-wide operation placed (R148, R150, R151). -/
def RankSched.placeWide (w : WideOp) (r : RankSched) : RankSched := { r with widePlaced := some w }

/-- The controller enters WAKING and self-refresh exit is placed on every rank (R150, R151). -/
def State.enterWaking (s : State) : State :=
  { s.onRanks (RankSched.placeWide .exit) with quiesce := .waking, qack := false }

/-- Every rank has the state. -/
def State.allRanks (s : State) (x : RankState) : Bool := s.ranks.toList.all fun r => decide (r.state = x)

/-- No rank has self-refresh entry or exit placed or in progress. -/
def State.noneChanging (s : State) : Bool := s.ranks.toList.all fun r => !r.changing

/-! ### QREQ_N and the drain -/

/-- QREQ_N asserted: from RUN to DRAINING (R149). While RESET_N is asserted only the level changes. -/
def State.requestQuiet (s : State) : State :=
  let s := { s with qreq := true }
  if s.resetN = false ∧ s.quiesce = .run then s.enterDraining else s

/-- QREQ_N deasserted: from DRAINING to RUN (R149), from ASLEEP to WAKING with QACK_N deasserted (R151). -/
def State.withdrawQuiet (s : State) : State :=
  let s := { s with qreq := false }
  if s.resetN then s
  else match s.quiesce with
    | .draining => s.enterRun
    | .asleep => s.enterWaking
    | .init => s
    | .run => s
    | .entering => s
    | .waking => s

/-- The drain condition holds in DRAINING: ENTERING, and self-refresh entry placed on every rank (R149, R150). -/
def State.completeDrain (s : State) : State :=
  if s.quiesce = .draining ∧ s.drainCondition = true then
    { s.onRanks (RankSched.placeWide .entry) with quiesce := .entering }
  else s

/-! ### Rank-wide operations complete (R148, R150, R151, R152) -/

/-- What follows the completion of self-refresh entry on a rank: ASLEEP with QACK_N asserted, or WAKING, at the
last of them (R150); in WAKING after a warm reset, the rank's exit is placed (R152). -/
def State.afterEntry (s : State) (k : RankNo) : State :=
  match s.quiesce with
  | .entering =>
    if s.allRanks .selfRefresh then
      if s.qreq then { s with quiesce := .asleep, qack := true } else s.enterWaking
    else s
  | .waking => s.onRank k (RankSched.placeWide .exit)
  | .init => s
  | .run => s
  | .draining => s
  | .asleep => s

/-- Self-refresh entry in progress on the rank completes (R142, R150). -/
def State.entryDone (s : State) (k : RankNo) : State :=
  if s.ranks[k].wide = some .entry then
    let s := s.onRank k fun r => { r with wide := none, state := .selfRefresh }
    if s.resetN then s else s.afterEntry k
  else s

/-- Self-refresh exit in progress on the rank completes; the last one ends the wake (R142, R147, R151). -/
def State.exitDone (s : State) (k : RankNo) : State :=
  if s.ranks[k].wide = some .exit then
    let s := s.onRank k fun r => { r with wide := none, state := .operating, debt := 0, timerOn := true }
    if s.resetN = false ∧ s.quiesce = .waking ∧ s.allRanks .operating = true ∧ s.noneChanging = true then
      s.enterByRequest
    else s
  else s

/-- Rank initialization in progress on the rank completes; the last one ends INIT (R142, R147, R148). -/
def State.initDone (s : State) (k : RankNo) : State :=
  if s.ranks[k].wide = some .init then
    let s := s.onRank k fun r => { r with wide := none, state := .operating, timerOn := true }
    if s.resetN = false ∧ s.quiesce = .init ∧ s.allRanks .operating = true then s.enterByRequest else s
  else s

/-! ### Operations in progress when a reset falls -/

/-- A line operation in progress when the reset falls: it finishes, its result discarded (R55, R75, R114, R137). -/
def LineOp.abandon (o : LineOp) : LineOp := { o with abandoned := true }

/-- The bank slots when a reset falls: each operation in progress goes on there. -/
def RankSched.abandoned (r : RankSched) : Vector (Option LineOp) 16 := mapV (Option.map LineOp.abandon) r.banks

/-! ### Power-on reset -/

/-- A rank scheduler at power-on reset: initialization placed (R148), nothing else placed; the line operations in
progress finish on their banks (R12, R55, R75, R137). A rank-wide operation in progress is dropped (DEDUCED, log entry
19). -/
def RankSched.powerOn (r : RankSched) : RankSched := { RankSched.reset with banks := r.abandoned }

/-- Power-on reset: every field at its power-on value; the straps sampled (R162), the operations in progress at the
rank ports left to finish (R75, R137), the level of QREQ_N and the commands that wait kept, and the stored lines free
again (R12). -/
def State.powerOn (s : State) (straps : BitVec 2) : State :=
  { State.reset with
    port := { State.reset.port with address := strapAddress straps }
    ranks := mapV RankSched.powerOn s.ranks
    qreq := s.qreq
    powerCycles := s.powerCycles + 1
    pending := s.pending }

/-! ### Warm reset -/

/-- A slot across warm reset: COPYING becomes PENDING, lines lost 0 (R98). -/
def SlotEntry.warm (e : SlotEntry) : SlotEntry :=
  match e.phase with
  | .copying n => { e with phase := .pending n, lost := 0 }
  | .pending _ => e
  | .active => e

/-- The slot's job is to be queued: it is PENDING (R98). -/
def SlotEntry.isPending (e : SlotEntry) : Bool :=
  match e.phase with
  | .pending _ => true
  | .copying _ => false
  | .active => false

/-- The job queue rebuilt: ROW_MOVE of each PENDING slot, then RESYNC of each region in a REBUILD state (R98). -/
def State.rebuiltQueue (s : State) : List JobRef :=
  (s.slotsInUse.filter fun x => x.2.isPending).map (fun x => .rowMove x.1)
    ++ (regionIxs.filter fun i => match s.mirrors[i] with
        | none => false
        | some m => m.state.rebuilding.isSome).map .resync

/-- A rank-wide operation placed across warm reset: initialization is kept, entry and exit are discarded (R152). -/
def keptWide : Option WideOp → Option WideOp
  | some .init => some .init
  | _ => none

/-- A rank scheduler at the assertion of RESET_N (R152); its timer stops until the release (DEDUCED, log entry 9). -/
def RankSched.warm (r : RankSched) : RankSched :=
  { r with
    placed := []
    banks := r.abandoned
    widePlaced := keptWide r.widePlaced
    debt := 0
    moveWait := 0
    timerOn := false }

/-- RESET_N asserted (R17, R55, R75, R98, R114, R137, R140, R152). -/
def State.assertReset (s : State) : State :=
  if s.resetN then s
  else
    let s := { s with slots := mapV (Option.map SlotEntry.warm) s.slots }
    { s with
      resetN := true
      front := .reset
      staged := s.active
      engine := { mode := .idle, job := none, queue := s.rebuiltQueue }
      patrol := { s.patrol with step := none }
      tracker := []
      ranks := mapV RankSched.warm s.ranks
      qack := false }

/-- A rank scheduler at the release of RESET_N: its refresh timer restarts if it is OPERATING (R152), with an entry in
progress too (DEDUCED, log entry 21). -/
def RankSched.release (r : RankSched) : RankSched := { r with timerOn := decide (r.state = .operating) }

/-- Self-refresh exit placed on a rank in SELF_REFRESH that has none in progress (R152), whatever still runs on the other
ranks (DEDUCED, log entry 9). -/
def RankSched.wake (r : RankSched) : RankSched :=
  if r.state = .selfRefresh ∧ r.wide = none then r.placeWide .exit else r

/-- The controller takes its state from the ranks (R152). -/
def State.quiesceFromRanks (s : State) : State :=
  if s.ranks.toList.any fun r => decide (r.state = .initializing) then { s with quiesce := .init }
  else if (s.ranks.toList.any fun r => decide (r.state = .selfRefresh)) || !s.noneChanging then
    { s.onRanks RankSched.wake with quiesce := .waking }
  else s.enterByRequest

/-- RESET_N released (R38, R128, R152, R161, R162, R166). -/
def State.releaseReset (s : State) : State :=
  if s.resetN then
    let s := { s.onRanks RankSched.release with
      resetN := false
      port := { s.port with response := idleFrame } }
    (s.quiesceFromRanks).offer (.resetSeen true)
  else s

/-! ### The commands -/

/-- QREQ_N_ASSERT (R109, R149). -/
def execQreqAssert (s : State) : Host.Outcome State Fault Refusal := .next s.requestQuiet

/-- QREQ_N_DEASSERT (R110, R149, R151). -/
def execQreqDeassert (s : State) : Host.Outcome State Fault Refusal := .next s.withdrawQuiet

/-- DRAIN_COMPLETE (R149, R150). -/
def execDrainComplete (s : State) : Host.Outcome State Fault Refusal := s.live State.completeDrain

/-- SELF_REFRESH_ENTRY_COMPLETE (R150, R152). -/
def execSelfRefreshEntryComplete (k : RankNo) (s : State) : Host.Outcome State Fault Refusal := .next (s.entryDone k)

/-- SELF_REFRESH_EXIT_COMPLETE (R151). -/
def execSelfRefreshExitComplete (k : RankNo) (s : State) : Host.Outcome State Fault Refusal := .next (s.exitDone k)

/-- RANK_INIT_COMPLETE (R148). -/
def execRankInitComplete (k : RankNo) (s : State) : Host.Outcome State Fault Refusal := .next (s.initDone k)

/-- POWER_ON_RESET (R12, R17, R55, R75, R97, R127, R137, R148, R160, R162, R166). -/
def execPowerOnReset (straps : BitVec 2) (s : State) : Host.Outcome State Fault Refusal := .next (s.powerOn straps)

/-- WARM_RESET_ASSERT (R152 and the warm reset rules of each chapter). -/
def execWarmResetAssert (s : State) : Host.Outcome State Fault Refusal := .next s.assertReset

/-- WARM_RESET_RELEASE (R152, R161, R162). -/
def execWarmResetRelease (s : State) : Host.Outcome State Fault Refusal := .next s.releaseReset

end Sys2Proof.Machine
end

