-- ==== Sys2Proof/Machine/MoveEngine.lean ====
section
/-! DEFINITION. The move engine (chapter 6): JOB_START, LINE_STEP_BEGIN, MOVE_READ_COMPLETE and
TARGET_WRITE_COMPLETE, with the completion of a job at the table and at the mirror controller (R91, R122). -/

namespace Sys2Proof.Machine

/-! ### Starting a job (R101) -/

/-- The engine RUNNING a job it has just taken from the head of the queue: p 0, no step, lines lost 0. -/
def State.beginJob (s : State) (ref : JobRef) (ends : JobEnds) (length : Nat) (rest : List JobRef) : State :=
  { s with engine :=
      { mode := .running
        job := some { ref := ref, ends := ends, length := length, p := 0, step := none, lost := 0,
                      closed := false }
        queue := rest } }

/-- ROW_MOVE(i) starts: the slot, PENDING, becomes COPYING (R89, R101). -/
def State.startRowMove (s : State) (i : SlotIx) (rest : List JobRef) : State :=
  match s.slots[i] with
  | some { phase := .pending n, home := home, current := current, cause := cause, lost := lost } =>
    (s.setSlot i (some { phase := .copying n, home := home, current := current, cause := cause, lost := lost })
      ).beginJob (.rowMove i) (.rows { home with row := current } { home with row := n }) 128 rest
  | _ => s

/-- RESYNC(i) starts, from the serving side to the side being rebuilt (R101). -/
def State.startResync (s : State) (i : RegionIx) (rest : List JobRef) : State :=
  match s.mirrors[i] with
  | none => s
  | some m =>
    match m.state.rebuilding with
    | none => s
    | some side => s.beginJob (.resync i) (.sides side.other) s.active[i].positions rest

/-- An IDLE engine in RUN takes the reference at the head of the job queue (R101). -/
def State.startJob (s : State) : State :=
  if s.engine.mode = .idle ∧ s.quiesce = .run then
    match s.engine.queue with
    | [] => s
    | .rowMove i :: rest => s.startRowMove i rest
    | .resync i :: rest => s.startResync i rest
  else s

/-! ### Line steps (R102 to R107) -/

/-- The line address, source and target of a position of the job (R102). -/
def State.stepPlace (s : State) (j : Job) (q : Nat) : Option (LineAddr × Loc × Loc) :=
  match j.ref, j.ends with
  | .rowMove i, .rows source target =>
    match s.slots[i] with
    | none => none
    | some e =>
      let c : ColNo := Fin.ofNat 128 q
      some ((e.home.atCol c).lineAddr, source.atCol c, target.atCol c)
  | .resync i, .sides source =>
    let la := s.active[i].lineAt q
    some (la, sideLoc source la, sideLoc source.other la)
  | _, _ => none

/-- A write queue entry for the line is ISSUED (R103). -/
def FrontLink.issuedFor (f : FrontLink) (la : LineAddr) : Bool :=
  f.queue.any fun e => decide (e.la = la) && match e.state with
    | .issued _ _ => true
    | _ => false

/-- The step for position p begins, by placing its move read in the MOVE class (R103). -/
def State.beginStep (s : State) : State :=
  if s.engine.mode = .running ∧ s.quiesce = .run then
    match s.engine.job with
    | none => s
    | some j =>
      if j.step = none ∧ j.closed = false ∧ j.p < j.length then
        match s.stepPlace j j.p with
        | none => s
        | some (la, source, target) =>
          if s.front.issuedFor la then s
          else
            { s.place { kind := .moveRead, la := la, loc := source } with
              engine := { s.engine with
                job := some { j with
                  step := some { position := j.p, la := la, source := source, target := target,
                                 phase := .reading, held := none, discarded := false } } } }
      else s
  else s

/-- The loss of a line by the job in progress: its count, the slot's, the event and the side count (R90, R105). The
step in flight remembers that it counted. -/
def State.loseLine (s : State) (j : Job) (st : LineStep) : State :=
  let s := { s with engine := { s.engine with
    job := some { j with lost := j.lost + 1, step := j.step.map fun (x : LineStep) => { x with lost := true } } } }
  match j.ref, j.ends with
  | .rowMove i, _ =>
    (match s.slots[i] with
      | none => s
      | some e => s.setSlot i (some { e with lost := e.lost + 1 })).offer (.uncorrectable .copy st.source)
  | .resync i, .sides source =>
    let s := s.offer (.uncorrectable .resync st.source)
    match s.mirrors[i] with
    | none => s
    | some m => s.sideReport i source m.born
  | .resync _, .rows _ _ => s.offer (.uncorrectable .resync st.source)

/-- The move read of the step in flight has completed: the target write is placed, with data or poison, and
a line lost is recorded unless the step is discarded (R104, R105, R106). -/
def State.moveReadDone (s : State) (rd : Reading) : State :=
  match s.engine.job with
  | none => s
  | some j =>
    match j.step with
    | none => s
    | some st =>
      let j := { j with step := some { st with phase := .writing } }
      let s := { s.place { kind := .targetWrite rd.form, la := st.la, loc := st.target } with
        engine := { s.engine with job := some j } }
      if rd.outcome = .uncorrectable ∧ st.discarded = false then s.loseLine j st else s

/-- The engine state after a step has ended with the job still in progress (R106, R109, R110). -/
def State.modeAfterStep (s : State) : EngineMode := if s.quiesce = .run then .running else .paused

/-- ROW_MOVE(i) complete at the substitution table: ACTIVE at the former next location, MOVE_DONE (R91). -/
def State.rowMoveDone (s : State) (i : SlotIx) : State :=
  match s.slots[i] with
  | none => s
  | some e =>
    match e.phase with
    | .copying n => (s.setSlot i (some { e with current := n, phase := .active })).offer (.moveDone i e.lost)
    | _ => s

/-- RESYNC(i) complete at the mirror controller: DUPLEX, both counts 0, RESYNC_DONE (R108, R122). -/
def State.resyncDone (s : State) (i : RegionIx) (lost : Nat) : State :=
  (match s.mirrors[i] with
    | none => s
    | some m => s.setMirror i (some { m with state := .duplex, primaryCount := 0, shadowCount := 0 })
  ).offer (.resyncDone i lost)

/-- The job's last step has ended: the job record is dropped and the completion reported (R108). -/
def State.completeJob (s : State) (j : Job) : State :=
  let s := { s with engine := { s.engine with mode := .idle, job := none } }
  match j.ref with
  | .rowMove i => s.rowMoveDone i
  | .resync i => s.resyncDone i j.lost

/-- The target write of the step in flight has completed, which ends the step (R106, R108, R111 to R113). -/
def State.endStep (s : State) : State :=
  match s.engine.job with
  | none => s
  | some j =>
    match j.step with
    | none => s
    | some st =>
      if st.discarded then
        if j.closed then { s with engine := { s.engine with mode := .idle, job := none } }
        else { s with engine := { s.engine with mode := s.modeAfterStep, job := some { j with step := none } } }
      else if st.position + 1 = j.length then (s.completeJob j).releaseHeld st.held
      else
        { s with engine := { s.engine with
            mode := s.modeAfterStep
            job := some { j with p := st.position + 1, step := none } } }.releaseHeld st.held

/-! ### The commands -/

/-- JOB_START (R89, R101). -/
def execJobStart (s : State) : Host.Outcome State Fault Refusal := s.live State.startJob

/-- LINE_STEP_BEGIN (R102, R103). -/
def execLineStepBegin (s : State) : Host.Outcome State Fault Refusal := s.live State.beginStep

/-- MOVE_READ_COMPLETE on a bank that carries a move read (R104, R105). -/
def execMoveReadComplete (k : RankNo) (b : BankNo) (d : Option StoredLine) (s : State) :
    Host.Outcome State Fault Refusal :=
  match s.inBank k b with
  | some { kind := .moveRead, loc := l, abandoned := gone, .. } =>
    let r := (s.freeBank k b).sense l d
    .next (if gone then r.1 else r.1.moveReadDone r.2)
  | _ => .next s

/-- TARGET_WRITE_COMPLETE on a bank that carries a target write (R106, R108). -/
def execTargetWriteComplete (k : RankNo) (b : BankNo) (s : State) : Host.Outcome State Fault Refusal :=
  match s.inBank k b with
  | some { kind := .targetWrite f, loc := l, abandoned := gone, .. } =>
    let s := (s.freeBank k b).storeForm l f
    .next (if gone then s else s.endStep)
  | _ => .next s

end Sys2Proof.Machine
end

