-- ==== Sys2Proof/Machine/RankPorts.lean ====
section
/-! DEFINITION. Completions at the rank ports of host work (chapters 3, 4, 7): HOST_READ_COMPLETE,
MERGE_READ_COMPLETE, FAILOVER_READ_COMPLETE, ENTRY_WRITE_COMPLETE, REPAIR_WRITE_COMPLETE, and REFRESH_COMPLETE and
REFRESH_TIMER_EXPIRY (chapter 9). A completion on a bank that does not carry such an operation has no effect
(DEDUCED, log entry 1). -/

namespace Sys2Proof.Machine

/-! ### Reports and answers (R65, R66, R71 to R73) -/

/-- The source an UNCORRECTABLE event of a host request names (R73). -/
def requestSource (merge : Bool) : EventSource := if merge then .mergeRead else .hostRead

/-- The reports of a rank read placed by the router (R72, R73). -/
def State.reportRead (s : State) (merge : Bool) (cls : RouteClass) (l : Loc) (o : ReadOutcome) : State :=
  match o with
  | .clean => s
  | .poison => s
  | .corrected =>
    match cls with
    | .spared i => s.correctedReport l.physRow i
    | _ => s
  | .uncorrectable =>
    let s := s.offer (.uncorrectable (requestSource merge) l)
    match cls with
    | .spared _ => s.retireInternal .uncorrectable l.physRow
    | .mirrored i side _ born => s.sideReport i side born
    | .plain => s
    | .stale => s

/-- The answer of a request by its answering read (R8, R9, R44, R50, R71). -/
def State.answer (s : State) (merge : Bool) (tag : Tag) (rd : Reading) : State :=
  if merge then s.completeMerge tag rd.form
  else s.answerRead tag rd.data rd.outcome.hostResult

/-- The record whose shadow a failover read is placed on, where one is called for: an UNCORRECTABLE read
that was placed on the primary in DUPLEX, with the shadow serving in the state after its report (R65). -/
def State.failoverFor (s : State) (cls : RouteClass) (o : ReadOutcome) : Option (RegionIx × MirrorRecord) :=
  match cls, o with
  | .mirrored i .primary true _, .uncorrectable =>
    match s.mirrors[i] with
    | some m => if m.state.shadowServes then some (i, m) else none
    | none => none
  | _, _ => none

/-- A host read or merge read has completed with an outcome: reported, then failed over or answered (R65, R66). -/
def State.requestReadDone (s : State) (merge : Bool) (tag : Tag) (cls : RouteClass) (la : LineAddr) (l : Loc)
    (rd : Reading) : State :=
  let s := s.reportRead merge cls l rd.outcome
  match s.failoverFor cls rd.outcome with
  | some (i, m) =>
    (s.place { kind := .failoverRead tag merge i m.born, la := la, loc := sideLoc .shadow la }).onCounters
      fun c => { c with failoverReads := satInc c.failoverReads }
  | none => s.answer merge tag rd

/-- A failover read has completed: the repair of the primary formed, or the shadow reported, and the request
answered (R65, R67, R73). -/
def State.failoverDone (s : State) (tag : Tag) (merge : Bool) (i : RegionIx) (born : Nat) (la : LineAddr) (l : Loc)
    (superseded : Bool) (rd : Reading) : State :=
  match rd.outcome with
  | .clean => ((s.formRepair la i .primary rd.data superseded false).1).answer merge tag rd
  | .corrected => ((s.formRepair la i .primary rd.data superseded false).1).answer merge tag rd
  | .uncorrectable =>
    ((s.offer (.uncorrectable (requestSource merge) l)).sideReport i .shadow born).answer merge tag rd
  | .poison => s.answer merge tag rd

/-! ### Rank writes of write queue entries (R52) -/

/-- One rank write of the ISSUED entry for a line has completed: the entry leaves when it was the last. -/
def State.entryWriteDone (s : State) (la : LineAddr) : State :=
  match s.oldestEntry la with
  | some { state := .issued f left, .. } =>
    if left ≤ 1 then s.dropOldest la else s.setOldest la (.issued f (left - 1))
  | _ => s

/-! ### The patrol step's account of its work (R133) -/

/-- One of the reads or restorative writes of the patrol step is done; the step ends with the last. -/
def State.patrolDone (s : State) : State :=
  { s with patrol := { s.patrol with
      step := match s.patrol.step with
        | none => none
        | some p => if p.outstanding ≤ 1 then none else some { p with outstanding := p.outstanding - 1 } } }

/-- One more read or restorative write of the patrol step. -/
def State.patrolMore (s : State) : State :=
  { s with patrol := { s.patrol with
      step := s.patrol.step.map fun p => { p with outstanding := p.outstanding + 1 } } }

/-! ### Refresh (R147) -/

/-- A refresh timer expiry on a rank: it is taken while the timer runs and the rank is OPERATING (R147, R153). -/
def State.refreshExpiry (s : State) (k : RankNo) : State :=
  if s.ranks[k].timerOn = true ∧ s.ranks[k].state = .operating then
    if s.ranks[k].debt < Config.maxDebt then s.onRank k fun r => { r with debt := r.debt + 1 }
    else
      (s.onCounters fun c => { c with refreshLate := c.refreshLate.set k (satInc c.refreshLate[k]) }).offer
        (.refreshLate k)
  else s

/-- A REFRESH in progress on the rank completes and its slots are idle (R142). -/
def State.refreshDone (s : State) (k : RankNo) : State :=
  if s.ranks[k].wide = some .refresh then s.onRank k fun r => { r with wide := none } else s

/-! ### The commands -/

/-- HOST_READ_COMPLETE on a bank that carries a host read (R65, R66, R71 to R73). -/
def execHostReadComplete (k : RankNo) (b : BankNo) (d : Option StoredLine) (s : State) :
    Host.Outcome State Fault Refusal :=
  match s.inBank k b with
  | some { kind := .hostRead tag cls, la := la, loc := l, abandoned := gone, .. } =>
    let r := (s.freeBank k b).sense l d
    .next (if gone then r.1 else r.1.requestReadDone false tag cls la l r.2)
  | _ => .next s

/-- MERGE_READ_COMPLETE on a bank that carries a merge read (R9, R50, R65). -/
def execMergeReadComplete (k : RankNo) (b : BankNo) (d : Option StoredLine) (s : State) :
    Host.Outcome State Fault Refusal :=
  match s.inBank k b with
  | some { kind := .mergeRead tag cls, la := la, loc := l, abandoned := gone, .. } =>
    let r := (s.freeBank k b).sense l d
    .next (if gone then r.1 else r.1.requestReadDone true tag cls la l r.2)
  | _ => .next s

/-- FAILOVER_READ_COMPLETE on a bank that carries a failover read (R65). -/
def execFailoverReadComplete (k : RankNo) (b : BankNo) (d : Option StoredLine) (s : State) :
    Host.Outcome State Fault Refusal :=
  match s.inBank k b with
  | some { kind := .failoverRead tag merge i born, la := la, loc := l, superseded := mark, abandoned := gone } =>
    let r := (s.freeBank k b).sense l d
    .next (if gone then r.1 else r.1.failoverDone tag merge i born la l mark r.2)
  | _ => .next s

/-- ENTRY_WRITE_COMPLETE on a bank that carries a rank write of a queue entry: the line is stored, and the entry
leaves the queue with its last write (R52). -/
def execEntryWriteComplete (k : RankNo) (b : BankNo) (s : State) : Host.Outcome State Fault Refusal :=
  match s.inBank k b with
  | some { kind := .entryWrite f _, la := la, loc := l, abandoned := gone, .. } =>
    let s := (s.freeBank k b).storeForm l f
    .next (if gone then s else s.entryWriteDone la)
  | _ => .next s

/-- REPAIR_WRITE_COMPLETE on a bank that carries a repair write: stored, counted and logged (R70, R125). -/
def execRepairWriteComplete (k : RankNo) (b : BankNo) (s : State) : Host.Outcome State Fault Refusal :=
  match s.inBank k b with
  | some { kind := .repairWrite data i side patrol _, la := la, loc := l, abandoned := gone, .. } =>
    let s := (s.freeBank k b).storeForm l (.data data)
    .next (if gone then s else
      let s := (s.onCounters fun c => { c with repairsWritten := satInc c.repairsWritten }).offer
        (.mirrorRepaired i side (homeLoc la))
      if patrol then s.patrolDone else s)
  | _ => .next s

/-- REFRESH_COMPLETE (R142). -/
def execRefreshComplete (k : RankNo) (s : State) : Host.Outcome State Fault Refusal := .next (s.refreshDone k)

/-- REFRESH_TIMER_EXPIRY (R147). -/
def execRefreshTimerExpiry (k : RankNo) (s : State) : Host.Outcome State Fault Refusal :=
  s.live fun s => s.refreshExpiry k

end Sys2Proof.Machine
end

