-- ==== Sys2Proof/Machine/Scheduler.lean ====
section
/-! DEFINITION. The arbiter of a rank (sections 9.1 and 9.2): SCHEDULER_GRANT, with the check of a restorative
write at its grant (R69). -/

namespace Sys2Proof.Machine

/-! ### Eligibility (R144) -/

/-- The operation at index `i` of those placed may be granted: its slot is idle and no earlier operation for
its line waits (R144). -/
def RankSched.eligible (r : RankSched) (i : Nat) (o : LineOp) : Bool :=
  r.slotIdle o.loc.bank && !(r.placed.take i).any fun x => decide (x.loc = o.loc)

/-- The operation at index `i` holds back a later HOST operation for its line (R144). -/
def RankSched.holdsBackHost (r : RankSched) (i : Nat) (o : LineOp) : Bool :=
  (r.placed.drop (i + 1)).any fun x => decide (x.kind.cls = .host) && decide (x.loc = o.loc)

/-- The slot that a grant is for: `none` is any idle slot of the rank, `some b` that of bank `b` alone, which is the
slot of a write discarded at its grant (R145). -/
abbrev SlotChoice := Option BankNo

/-- The operation goes to a slot the grant is for. -/
def SlotChoice.takes (c : SlotChoice) (o : LineOp) : Bool :=
  match c with
  | none => true
  | some b => decide (o.loc.bank = b)

/-- The eligible operations for the slot with their indices, oldest first. -/
def RankSched.eligibles (r : RankSched) (c : SlotChoice) : List (LineOp × Nat) :=
  r.placed.zipIdx.filter fun x => c.takes x.1 && r.eligible x.2 x.1

/-- The operation takes part in the HOST step: it is HOST, or it holds back a HOST operation (R144, R145). -/
def RankSched.inHostStep (r : RankSched) (x : LineOp × Nat) : Bool :=
  decide (x.1.kind.cls = .host) || r.holdsBackHost x.2 x.1

/-- The choice of the HOST step: reads before writes, or writes before reads, the oldest of the kind that goes
first, else the oldest of the other (R145 step 3). -/
def RankSched.hostChoice (r : RankSched) (c : SlotChoice) (writesFirst : Bool) : Option (LineOp × Nat) :=
  let candidates := (r.eligibles c).filter r.inHostStep
  match candidates.find? fun x => decide (x.1.kind.isRead ≠ writesFirst) with
  | some x => some x
  | none => candidates.head?

/-- The oldest eligible operation of a class. -/
def RankSched.oldestOf (r : RankSched) (c : SlotChoice) (cls : OpClass) : Option (LineOp × Nat) :=
  (r.eligibles c).find? fun x => decide (x.1.kind.cls = cls)

/-- The scheduler holds a HOST operation, eligible or not (R145 step 4). -/
def RankSched.holdsHost (r : RankSched) : Bool := r.placed.any fun o => decide (o.kind.cls = .host)

/-- The scheduler holds a MOVE operation that has not been granted (R146). -/
def RankSched.holdsMove (r : RankSched) : Bool := r.placed.any fun o => decide (o.kind.cls = .move)

/-! ### The order of R145 -/

/-- What is granted next. -/
inductive Grant where
  | nothing
  | wide (w : WideOp)
  | line (index : Nat) (op : LineOp)
deriving DecidableEq, Repr

/-- Steps 5 and 6 of R145. -/
def RankSched.lowGrant (r : RankSched) (c : SlotChoice) : Grant :=
  match r.oldestOf c .move with
  | some x => .line x.2 x.1
  | none =>
    match r.oldestOf c .patrol with
    | some x => .line x.2 x.1
    | none => .nothing

/-- Steps 3 to 6 of R145. `queued`: entries in the write queue. -/
def RankSched.hostGrant (r : RankSched) (c : SlotChoice) (queued : Nat) : Grant :=
  match r.hostChoice c (decide (Config.writesFirst ≤ queued)) with
  | some x => .line x.2 x.1
  | none => if 1 ≤ r.debt ∧ r.holdsHost = false ∧ r.allIdle = true then .wide .refresh else r.lowGrant c

/-- Steps 2 to 6 of R145. -/
def RankSched.lineGrant (r : RankSched) (c : SlotChoice) (queued : Nat) : Grant :=
  match (if Config.maxMoveWait ≤ r.moveWait then r.oldestOf c .move else none) with
  | some x => .line x.2 x.1
  | none => r.hostGrant c queued

/-- The grant decided by the first step of R145 that applies. A rank-wide operation placed is granted once all
slots are idle (R142, R150); no line operation is granted on a rank that is not OPERATING (R142). -/
def RankSched.decideGrant (r : RankSched) (c : SlotChoice) (queued : Nat) : Grant :=
  if r.wide.isSome then .nothing
  else match r.widePlaced with
    | some w => if r.allIdle then .wide w else .nothing
    | none =>
      if r.state ≠ .operating then .nothing
      else if Config.maxDebt ≤ r.debt then (if r.allIdle then .wide .refresh else .nothing)
      else r.lineGrant c queued

/-! ### Taking a grant (R146, R147) -/

/-- The move-wait count after a grant of another class on the rank (R146). -/
def RankSched.waitMore (r : RankSched) : Nat :=
  if r.holdsMove then min Config.maxMoveWait (r.moveWait + 1) else r.moveWait

/-- A line operation granted: its slot busy, its place free (R142, R146). -/
def RankSched.takeLine (r : RankSched) (i : Nat) (o : LineOp) : RankSched :=
  { r with
    placed := r.placed.eraseIdx i
    banks := r.banks.set o.loc.bank (some o)
    moveWait := if o.kind.cls = .move then 0 else r.waitMore }

/-- A rank-wide operation granted (R142). REFRESH lowers the debt (R147) and counts for a waiting MOVE (R146).
Self-refresh entry clears the debt and stops the timer (R147). -/
def RankSched.takeWide (r : RankSched) (w : WideOp) : RankSched :=
  match w with
  | .refresh => { r with wide := some .refresh, debt := r.debt - 1, moveWait := r.waitMore }
  | .entry => { r with wide := some .entry, widePlaced := none, debt := 0, timerOn := false }
  | .exit => { r with wide := some .exit, widePlaced := none }
  | .init => { r with wide := some .init, widePlaced := none }

/-! ### Restorative writes at their grant (R69, R136) -/

/-- The scrub write that waits with the patrol step is placed (R136). -/
def State.placeWaitingScrub (s : State) : State :=
  match s.patrol.step with
  | none => s
  | some p =>
    match p.waiting with
    | none => s
    | some w =>
      { s with patrol := { s.patrol with step := some { p with waiting := none } } }.place
        { kind := .scrubWrite w.data w.cls, la := p.la, loc := w.loc, superseded := w.superseded }

/-- The restorative write is to be discarded: superseded, or no longer where its line would be written (R69). -/
def State.discards (s : State) (o : LineOp) : Bool :=
  o.kind.restorative && (o.superseded || !s.wouldWrite o.la o.loc)

/-- A restorative write discarded at its grant: its place is freed and it is counted (R69, R74, R136). -/
def State.discardAt (s : State) (k : RankNo) (i : Nat) (o : LineOp) : State :=
  let s := s.onRank k fun r => { r with placed := r.placed.eraseIdx i }
  match o.kind with
  | .repairWrite _ _ _ patrol _ =>
    let s := s.onCounters fun c => { c with repairsSuperseded := satInc c.repairsSuperseded }
    if patrol then s.patrolDone else s
  | .scrubWrite _ _ =>
    ((s.onCounters fun c => { c with scrubsSuperseded := satInc c.scrubsSuperseded }).patrolDone).placeWaitingScrub
  | _ => s

/-- A line operation granted on its rank; the grant of a scrub write lets a waiting one be placed (R136). -/
def State.grantLine (s : State) (k : RankNo) (i : Nat) (o : LineOp) : State :=
  let s := s.onRank k fun r => r.takeLine i o
  if o.kind.isScrub then s.placeWaitingScrub else s

/-- One grant on a rank, for the slot given. A discarded write takes no slot, and the order is applied again for its
slot at once (R145); the first argument bounds the discards. -/
def State.grantOn : Nat → State → RankNo → SlotChoice → State
  | 0, s, _, _ => s
  | n + 1, s, k, c =>
    match s.ranks[k].decideGrant c s.front.queue.length with
    | .nothing => s
    | .wide w => s.onRank k fun r => r.takeWide w
    | .line i o =>
      if s.discards o then State.grantOn n (s.discardAt k i o) k (some o.loc.bank) else s.grantLine k i o

/-- SCHEDULER_GRANT (R69, R144 to R147). Each discard frees a place and at most one waiting scrub is placed, so
the bound is never met. -/
def execSchedulerGrant (k : RankNo) (s : State) : Host.Outcome State Fault Refusal :=
  .next (State.grantOn (s.ranks[k].placed.length + 2) s k none)

end Sys2Proof.Machine
end

