-- ==== Sys2Proof/Machine/Patrol.lean ====
section
/-! DEFINITION. The patrol unit (chapter 8): PATROL_TIMER_EXPIRY, PATROL_READ_COMPLETE and SCRUB_WRITE_COMPLETE. -/

namespace Sys2Proof.Machine

/-! ### The cursor (R130, R131) -/

/-- The patrolled regions of a table, ascending (R130). -/
def patrolledRegions (t : RegionTable) : List RegionIx := regionIxs.filter fun i => t[i].valid && t[i].patrol

/-- The entry's home row is being moved, or about to be (R131). -/
def SlotEntry.moving (e : SlotEntry) : Bool :=
  match e.phase with
  | .pending _ => true
  | .copying _ => true
  | .active => false

/-- The whole region is passed over: a REBUILD state (R131). -/
def State.regionPassedOver (s : State) (i : RegionIx) : Bool :=
  decide (s.active[i].policy = .mirrored) &&
    match s.mirrors[i] with
    | none => true
    | some m => m.state.rebuilding.isSome

/-- The 128 positions of the position's row are passed over: a SPARED row with an entry in PENDING or COPYING
(R131). -/
def State.rowPassedOver (s : State) (i : RegionIx) (q : Nat) : Bool :=
  decide (s.active[i].policy = .spared) &&
    match s.entryHomed (homeRow (s.active[i].lineAt q)) with
    | none => false
    | some (_, e) => e.moving

/-- The first position from `q` on that is to be read in a region whose rows are tested one by one; the first
argument bounds the rows passed over. -/
def State.readableFrom (s : State) (i : RegionIx) : Nat → Nat → Option Nat
  | 0, _ => none
  | n + 1, q =>
    if s.active[i].positions ≤ q then none
    else if s.rowPassedOver i q then State.readableFrom s i n ((q / 128 + 1) * 128)
    else some q

/-- The first position from `q` on that is to be read in a region. At most 64 rows are passed over, one for each
slot. -/
def State.readableIn (s : State) (i : RegionIx) (q : Nat) : Option Nat :=
  if s.regionPassedOver i then none else s.readableFrom i 66 q

/-- The first position to be read, trying each region from the position given with it. -/
def State.seek (s : State) (froms : List (RegionIx × Nat)) : Option (RegionIx × Nat) :=
  froms.findSome? fun x => (s.readableIn x.1 x.2).map fun q => (x.1, q)

/-- The forward walk up to the wrap: the cursor's own region from its position, then each patrolled region
with a higher index from position 0 (R130). -/
def State.forwardFrom (s : State) (i : RegionIx) (q : Nat) : List (RegionIx × Nat) :=
  (i, q) :: ((patrolledRegions s.active).filter fun j => decide (i < j)).map fun j => (j, 0)

/-- Position 0 of each patrolled region, ascending: where the walk goes on after a wrap (R131). -/
def State.fromFirst (s : State) : List (RegionIx × Nat) := (patrolledRegions s.active).map fun j => (j, 0)

/-- Position 0 of the lowest patrolled region; idle where there is none. -/
def State.lowestCursor (s : State) : Option (RegionIx × Nat) := s.fromFirst.head?

/-- The cursor past a position, and whether it wrapped (R130, R131; DEDUCED, log entry 12). -/
def State.advance (s : State) (i : RegionIx) (q : Nat) : Option (RegionIx × Nat) × Bool :=
  if q + 1 < s.active[i].positions then (some (i, q + 1), false)
  else
    match (patrolledRegions s.active).find? fun j => decide (i < j) with
    | some j => (some (j, 0), false)
    | none => (s.lowestCursor, true)

/-- The cursor set. -/
def State.setCursor (s : State) (c : Option (RegionIx × Nat)) : State :=
  { s with patrol := { s.patrol with cursor := c } }

/-- The end of a patrol pass, in the order of R130. -/
def State.endPass (s : State) : State :=
  let n := s.patrol.pass + 1
  let s := { s with patrol := { s.patrol with pass := n } }
  let s := s.onCounters fun c => { c with passes := satInc c.passes }
  let s := { s with tracker := decay s.tracker }
  s.offer (.patrolPass n)

/-! ### The step (R131, R133) -/

/-- How a position is read and where its (first) read is placed (R131, R133). -/
def State.patrolPlan (s : State) (i : RegionIx) (la : LineAddr) : Option (PatrolTreat × PatrolTurn × Loc) :=
  match s.active[i].policy with
  | .plain => some (.plain, .single, homeLoc la)
  | .spared =>
    match s.entryHomed (homeRow la) with
    | none => some (.spared, .single, homeLoc la)
    | some (_, e) => some (.spared, .single, e.currentRow.atCol (colOf la))
  | .mirrored =>
    match s.mirrors[i] with
    | none => none
    | some m =>
      match m.state with
      | .duplex => some (.duplex m.born, .primary, sideLoc .primary la)
      | .simplexPrimary => some (.simplex .primary m.born, .single, sideLoc .primary la)
      | .simplexShadow => some (.simplex .shadow m.born, .single, sideLoc .shadow la)
      | .rebuildShadow => none
      | .rebuildPrimary => none
  | .pool => none
  | .closed => none

/-- The step for a position starts: its first read placed in the PATROL class (R133). -/
def State.startPatrol (s : State) (i : RegionIx) (q : Nat) : State :=
  let la := s.active[i].lineAt q
  match s.patrolPlan i la with
  | none => s
  | some (treat, turn, l) =>
    { s.place { kind := .patrolRead turn, la := la, loc := l } with
      patrol := { s.patrol with
        step := some { region := i, treat := treat, la := la, outstanding := 1, first := none,
                       waiting := none } } }

/-- The cursor chooses a position: it moves past it, a wrap ends the pass, and the step starts (R130, R131). -/
def State.chooseAt (s : State) (i : RegionIx) (q : Nat) : State :=
  let c := s.advance i q
  let s := if c.2 then s.endPass else s
  (s.setCursor c.1).startPatrol i q

/-- An expiry taken with the cursor at a position (R131). -/
def State.takeExpiry (s : State) (i : RegionIx) (q : Nat) : State :=
  match s.seek (s.forwardFrom i q) with
  | some (j, p) => s.chooseAt j p
  | none =>
    let s := s.endPass
    match s.seek s.fromFirst with
    | some (j, p) => s.chooseAt j p
    | none => s.setCursor s.lowestCursor

/-- An expiry of the patrol timer, which runs while the interval is above 0 (R128, R129). -/
def State.patrolExpiry (s : State) : State :=
  if s.patrol.interval = 0 then s
  else if s.quiesce ≠ .run ∨ s.patrol.step.isSome = true then
    s.onCounters fun c => { c with skippedExpiries := satInc c.skippedExpiries }
  else
    match s.patrol.cursor with
    | none => s
    | some (i, q) => s.takeExpiry i q

/-! ### Outcomes of patrol reads (R134 to R136) -/

/-- The patrol step changed. -/
def State.onPatrolStep (s : State) (f : PatrolStep → PatrolStep) : State :=
  { s with patrol := { s.patrol with step := s.patrol.step.map f } }

/-- A scrub write is placed with some scheduler and not yet granted (R136). -/
def State.scrubPlaced (s : State) : Bool := s.ranks.toList.any fun r => r.placed.any fun o => o.kind.isScrub

/-- A scrub write formed, under the routing class of this moment (R56): placed at once, or waiting with the step (R136;
DEDUCED for its class there, log entry 29). -/
def State.formScrub (s : State) (la : LineAddr) (l : Loc) (data : LineData) (superseded : Bool) : State :=
  let cls := writeClass s.active la l
  let s := s.patrolMore
  if s.scrubPlaced then
    s.onPatrolStep fun p => { p with waiting := some { loc := l, data := data, cls := cls, superseded := superseded } }
  else s.place { kind := .scrubWrite data cls, la := la, loc := l, superseded := superseded }

/-- An UNCORRECTABLE event of patrol (R134, R135). -/
def State.patrolEvent (s : State) (l : Loc) : State := s.offer (.uncorrectable .patrol l)

/-- A patrol read of a side of a mirrored region has completed (R134, R135). -/
def State.patrolSide (s : State) (i : RegionIx) (side : Side) (born : Nat) (la : LineAddr) (l : Loc)
    (superseded : Bool) (rd : Reading) : State :=
  match rd.outcome with
  | .clean => s
  | .poison => s
  | .corrected => s.formScrub la l rd.data superseded
  | .uncorrectable => (s.patrolEvent l).sideReport i side born

/-- A single patrol read has completed (R134). -/
def State.patrolSingle (s : State) (p : PatrolStep) (la : LineAddr) (l : Loc) (superseded : Bool) (rd : Reading) :
    State :=
  match p.treat with
  | .plain =>
    match rd.outcome with
    | .clean => s
    | .poison => s
    | .corrected => s.formScrub la l rd.data superseded
    | .uncorrectable => s.patrolEvent l
  | .spared =>
    match rd.outcome with
    | .clean => s
    | .poison => s
    | .corrected => (s.formScrub la l rd.data superseded).correctedReport l.physRow p.region
    | .uncorrectable => (s.patrolEvent l).retireInternal .uncorrectable l.physRow
  | .simplex side born => s.patrolSide p.region side born la l superseded rd
  | .duplex _ => s

/-- The record at the step's region is still the one found at the expiry, and is DUPLEX (R135). A region that left
DUPLEX and was rebuilt to it under the same record while the pair was in flight counts as still DUPLEX: R135 also has a
reading by which any event that moved it out of DUPLEX ends the matter (DESIGN CHOICE, log entry 27). -/
def State.stillDuplex (s : State) (i : RegionIx) (born : Nat) : Bool :=
  match s.mirrors[i] with
  | none => false
  | some m => decide (m.state = .duplex) && decide (m.born = born)

/-- A repair write of the patrol step formed and, if placed, counted among its work (R67, R135). -/
def State.patrolRepair (s : State) (la : LineAddr) (i : RegionIx) (side : Side) (data : LineData)
    (superseded : Bool) : State :=
  let r := s.formRepair la i side data superseded true
  if r.2 then r.1.patrolMore else r.1

/-- The repair after the second read of a DUPLEX pair, where one side read UNCORRECTABLE and the other gave
good data (R135). -/
def State.pairRepair (s : State) (p : PatrolStep) (born : Nat) (superseded : Bool) (rd : Reading) : State :=
  match p.first with
  | none => s
  | some f =>
    if s.stillDuplex p.region born then
      if f.reading.outcome = .uncorrectable ∧ rd.outcome.good = true then
        s.patrolRepair p.la p.region .primary rd.data superseded
      else if rd.outcome = .uncorrectable ∧ f.reading.outcome.good = true then
        s.patrolRepair p.la p.region .shadow f.reading.data f.superseded
      else s
    else s

/-- The first read of a DUPLEX pair has completed: its reports, then the shadow read (R133, R135). -/
def State.pairFirst (s : State) (p : PatrolStep) (born : Nat) (la : LineAddr) (l : Loc) (superseded : Bool)
    (rd : Reading) : State :=
  let s := s.patrolSide p.region .primary born la l superseded rd
  let s := s.onPatrolStep fun p => { p with first := some { reading := rd, superseded := superseded } }
  (s.place { kind := .patrolRead .shadow, la := la, loc := sideLoc .shadow la }).patrolMore

/-- The second read of a DUPLEX pair has completed: its reports, then the repair (R135). -/
def State.pairSecond (s : State) (p : PatrolStep) (born : Nat) (la : LineAddr) (l : Loc) (superseded : Bool)
    (rd : Reading) : State :=
  (s.patrolSide p.region .shadow born la l superseded rd).pairRepair p born superseded rd

/-- A patrol read of the step in flight has completed (R134, R135). -/
def State.patrolReadDone (s : State) (turn : PatrolTurn) (la : LineAddr) (l : Loc) (superseded : Bool)
    (rd : Reading) : State :=
  match s.patrol.step with
  | none => s
  | some p =>
    (match turn, p.treat with
      | .primary, .duplex born => s.pairFirst p born la l superseded rd
      | .shadow, .duplex born => s.pairSecond p born la l superseded rd
      | _, _ => s.patrolSingle p la l superseded rd).patrolDone

/-! ### The commands -/

/-- PATROL_TIMER_EXPIRY (R129 to R131, R133). -/
def execPatrolTimerExpiry (s : State) : Host.Outcome State Fault Refusal := s.live State.patrolExpiry

/-- PATROL_READ_COMPLETE on a bank that carries a patrol read (R134 to R137). -/
def execPatrolReadComplete (k : RankNo) (b : BankNo) (d : Option StoredLine) (s : State) :
    Host.Outcome State Fault Refusal :=
  match s.inBank k b with
  | some { kind := .patrolRead turn, la := la, loc := l, superseded := mark, abandoned := gone } =>
    let r := (s.freeBank k b).sense l d
    .next (if gone then r.1 else r.1.patrolReadDone turn la l mark r.2)
  | _ => .next s

/-- SCRUB_WRITE_COMPLETE on a bank that carries a scrub write: stored and counted (R136, R137). -/
def execScrubWriteComplete (k : RankNo) (b : BankNo) (s : State) : Host.Outcome State Fault Refusal :=
  match s.inBank k b with
  | some { kind := .scrubWrite data _, loc := l, abandoned := gone, .. } =>
    let s := (s.freeBank k b).storeForm l (.data data)
    .next (if gone then s else
      (s.onCounters fun c => { c with scrubWrites := satInc c.scrubWrites }).patrolDone)
  | _ => .next s

end Sys2Proof.Machine
end

