-- ==== Sys2Proof/Machine/Regions.lean ====
section
/-! DEFINITION. The region table commands (chapter 2): STAGE_REGION, READ_REGION and COMMIT_REGIONS, with the five
checks of a commit (R22 to R27) and its effects (R28 to R30, R132). -/

namespace Sys2Proof.Machine

/-! ### Staging and reading (R15, R16) -/

/-- An entry as STAGE_REGION stores it: patrol off for POOL and CLOSED, threshold 0 for all but SPARED (R15). -/
def RegionEntry.normalised (e : RegionEntry) : RegionEntry :=
  { e with
    patrol := e.patrol && decide (e.policy ≠ .pool) && decide (e.policy ≠ .closed)
    threshold := if e.policy = .spared then e.threshold else 0 }

/-- STAGE_REGION's execution (R15). -/
def State.stageRegion (s : State) (index valid rank : Byte) (first last : BitVec 16)
    (policy patrol threshold : Byte) : State :=
  match regionOf index, policyOf policy, flagOf valid, flagOf patrol with
  | some i, some p, some v, some pt =>
    let e : RegionEntry :=
      { valid := v, rank := rank, first := first, last := last, policy := p, patrol := pt, threshold := threshold }
    { s with staged := s.staged.set i e.normalised }.ok []
  | _, _, _, _ => s.badArg

/-- READ_REGION's execution (R16): selector 0 is ACTIVE, 1 is STAGED. -/
def State.readRegion (s : State) (index selector : Byte) : State :=
  match regionOf index, flagOf selector with
  | some i, some false => s.ok s.active[i].bytes
  | some i, some true => s.ok s.staged[i].bytes
  | _, _ => s.badArg

/-! ### The checks of a commit (R22 to R27) -/

/-- The range check fails the entry (R23). -/
def RegionEntry.badRange (e : RegionEntry) : Bool :=
  e.valid && (decide (3 < e.rank.toNat) || decide (e.last.toNat < e.first.toNat)
    || (decide (e.policy = .spared) && e.threshold == 0)
    || (decide (e.policy = .mirrored) && !(e.rank == 0 || e.rank == 2)))

/-- The two runs share a stripe number. -/
def RegionEntry.meets (e f : RegionEntry) : Bool :=
  decide (e.first.toNat ≤ f.last.toNat) && decide (f.first.toNat ≤ e.last.toNat)

/-- The overlap check fails entry `i` (R24): it shares a stripe with another entry of its rank, or with the
shadow range of a MIRRORED entry. -/
def overlapFails (t : RegionTable) (i : RegionIx) : Bool :=
  t[i].valid && regionIxs.any fun j =>
    t[j].valid && t[i].meets t[j] &&
      ((decide (i ≠ j) && decide (t[i].rank = t[j].rank))
        || (decide (t[j].policy = .mirrored) && decide (t[i].rank.toNat = t[j].rank.toNat + 1)))

/-- The row lies in a valid entry of the table with the policy. -/
def rowIn (t : RegionTable) (p : Policy) (r : PhysRow) : Bool :=
  regionIxs.any fun i => decide (t[i].policy = p) && t[i].covers r.rank r.row

/-- The rows that fail a slot under the containment check (R25). -/
def SlotEntry.uncontained (t : RegionTable) (e : SlotEntry) : List PhysRow :=
  (if rowIn t .spared e.home then [] else [e.home])
    ++ (if e.current = e.home.row ∨ rowIn t .pool e.currentRow = true then [] else [e.currentRow])
    ++ (match e.nextRow with
        | none => []
        | some r => if rowIn t .pool r then [] else [r])

/-- The rows that fail some slot in use (R25). -/
def State.uncontainedRows (s : State) : List PhysRow := s.slotsInUse.flatMap fun x => x.2.uncontained s.staged

/-- The lowest index of an active entry that contains one of the rows (R25; DEDUCED, log entry 13). -/
def State.lowestContaining (s : State) (rows : List PhysRow) : RegionIx :=
  match regionIxs.find? fun i => rows.any fun r => decide (coveringEntry s.active r.rank r.row = some i) with
  | some i => i
  | none => 0

/-- The stripe of the rank lies in a valid POOL entry (R26). -/
def inPool (t : RegionTable) (k : RankNo) (n : Nat) : Bool := (poolEntries t k).any fun e => e.hasStripe n

/-- The stripes at which membership of a POOL set may change. -/
def poolEdges (t : RegionTable) (k : RankNo) : List Nat :=
  (poolEntries t k).flatMap fun e => [e.first.toNat, e.last.toNat + 1]

/-- The POOL sets of the rank differ between the tables (R26): they differ at some edge of one of them. -/
def poolChanged (t u : RegionTable) (k : RankNo) : Bool :=
  (poolEdges t k ++ poolEdges u k).any fun n => decide (inPool t k n ≠ inPool u k n)

/-- The pool change check fails for the rank (R26). -/
def State.poolFails (s : State) (k : RankNo) : Bool :=
  poolChanged s.active s.staged k && s.slotsInUse.any fun x => decide (x.2.home.rank = k)

/-- The entry is a valid POOL entry of the rank. -/
def RegionEntry.poolOf (e : RegionEntry) (k : RankNo) : Bool :=
  e.valid && decide (e.rank.toNat = k.val) && decide (e.policy = .pool)

/-- The entries have the same valid flag, rank, first stripe, last stripe and policy (R26, R132). -/
def RegionEntry.sameExtent (e f : RegionEntry) : Bool :=
  e.valid == f.valid && e.rank == f.rank && e.first == f.first && e.last == f.last
    && decide (e.policy = f.policy)

/-- The index differs in a POOL entry of a rank that fails the pool change check (R26). -/
def State.poolIndexFails (s : State) (i : RegionIx) : Bool :=
  rankNos.any fun k => s.poolFails k && (s.active[i].poolOf k || s.staged[i].poolOf k)
    && !(s.active[i].sameExtent s.staged[i])

/-- The entry is a valid MIRRORED entry. -/
def RegionEntry.isMirror (e : RegionEntry) : Bool := e.valid && decide (e.policy = .mirrored)

/-- Both are valid MIRRORED entries of the same rank and stripes: the identity of R27. -/
def RegionEntry.sameMirror (e f : RegionEntry) : Bool :=
  e.isMirror && f.isMirror && e.rank == f.rank && e.first == f.first && e.last == f.last

/-- The region is being rebuilt (R27). -/
def State.rebuildingAt (s : State) (i : RegionIx) : Bool :=
  match s.mirrors[i] with
  | none => false
  | some m => m.state.rebuilding.isSome

/-- The rebuild check fails the index (R27). -/
def State.rebuildFails (s : State) (i : RegionIx) : Bool :=
  s.rebuildingAt i && !(s.staged[i].sameMirror s.active[i])

/-- The answer of the first check that fails, in the order of R22, with the index it names. -/
def State.commitFailure (s : State) : Option (PortReason × RegionIx) :=
  match regionIxs.find? fun i => s.staged[i].badRange with
  | some i => some (.range, i)
  | none =>
    match regionIxs.find? fun i => overlapFails s.staged i with
    | some i => some (.overlap, i)
    | none =>
      if s.uncontainedRows ≠ [] then some (.inUse, s.lowestContaining s.uncontainedRows)
      else
        match regionIxs.find? s.poolIndexFails with
        | some i => some (.inUse, i)
        | none =>
          match regionIxs.find? s.rebuildFails with
          | some i => some (.inUse, i)
          | none => none

/-! ### The effects of a successful commit (R28 to R30, R132) -/

/-- The commit creates a mirror record at the index (R30). -/
def State.createsMirror (s : State) (i : RegionIx) : Bool :=
  s.staged[i].isMirror && !(s.active[i].sameMirror s.staged[i])

/-- The mirror record at the index after the commit (R30). -/
def State.settledMirror (s : State) (i : RegionIx) : Option MirrorRecord :=
  if s.createsMirror i then
    some { state := .rebuildShadow, primaryCount := 0, shadowCount := 0, born := s.commits + 1 }
  else if s.staged[i].isMirror then s.mirrors[i]
  else none

/-- The rank of a spare cursor (R79). -/
def cursorRank (c : Fin 64) : RankNo := Fin.ofNat 4 (c.val / 16)

/-- The patrol cursor after the commit (R132). -/
def State.placedCursor (s : State) : Option (RegionIx × Nat) :=
  let patrolled := patrolledRegions s.staged
  match s.patrol.cursor with
  | none => (patrolled.head?).map fun j => (j, 0)
  | some (i, q) =>
    if s.active[i].sameExtent s.staged[i] && patrolled.contains i then some (i, q)
    else
      match patrolled.find? fun j => decide (i < j) with
      | some j => some (j, 0)
      | none => (patrolled.head?).map fun j => (j, 0)

/-- The state after a successful commit, but for the answer. -/
def State.committed (s : State) : State :=
  { s with
    active := s.staged
    tracker := []
    cursors := Vector.ofFn fun c : Fin 64 =>
      if poolChanged s.active s.staged (cursorRank c) then 0 else s.cursors[c]
    mirrors := Vector.ofFn s.settledMirror
    engine := { s.engine with
      queue := s.engine.queue ++ (regionIxs.filter s.createsMirror).map .resync }
    patrol := { s.patrol with cursor := s.placedCursor }
    commits := s.commits + 1 }

/-- COMMIT_REGIONS's execution (R22). -/
def State.commitRegions (s : State) : State :=
  match s.commitFailure with
  | some (why, i) => s.respond .refused [why.code, byte1 i.val]
  | none => s.committed.ok []

/-! ### The commands -/

/-- STAGE_REGION (R15). -/
def execStageRegion (index valid rank : Byte) (first last : BitVec 16) (policy patrol threshold : Byte) (s : State) :
    Host.Outcome State Fault Refusal :=
  s.atPort fun s => s.stageRegion index valid rank first last policy patrol threshold

/-- READ_REGION (R16). -/
def execReadRegion (index selector : Byte) (s : State) : Host.Outcome State Fault Refusal :=
  s.atPort fun s => s.readRegion index selector

/-- COMMIT_REGIONS (R22 to R30, R132). -/
def execCommitRegions (s : State) : Host.Outcome State Fault Refusal := s.atPort State.commitRegions

end Sys2Proof.Machine
end

