-- ==== Sys2Proof/Machine/ServicePort.lean ====
section
/-! DEFINITION. The service port commands but for those of the region table (chapter 11 and the chapters it names):
status and counters, the substitution table, the mirrors, patrol and tracker, events, admission, and the frame
that fails its checks. Each executes as a whole and fixes the response frame (R165). -/

namespace Sys2Proof.Machine

/-! ### Status and counters (R168, section 11.6) -/

/-- The three bytes of a rank in status page 0. -/
def RankSched.statusBytes (r : RankSched) : List Byte := [r.state.code, byte1 r.debt, byte1 r.moveWait]

/-- Status page 0: front link, quiesce and rank state. -/
def State.statusPage0 (s : State) : List Byte :=
  [flagByte (decide (s.front.admission = .opened)), flagByte s.front.creditsStarted, byte1 s.front.readBalance,
    byte1 s.front.writeBalance, byte1 s.front.readOwed, byte1 s.front.writeOwed, byte1 s.front.tracker.length,
    byte1 s.front.queue.length, s.quiesce.code, flagByte s.qreq, flagByte s.qack]
  ++ s.ranks.toList.flatMap RankSched.statusBytes

/-- The kind and number of a job reference in status page 1. -/
def JobRef.statusBytes : JobRef → List Byte
  | .rowMove i => [1, byte1 i.val]
  | .resync i => [2, byte1 i.val]

/-- The job record in status page 1: kind, number, pointer and length; 0 with none in progress. -/
def Engine.jobBytes (e : Engine) : List Byte :=
  match e.job with
  | none => List.replicate 10 0
  | some j => j.ref.statusBytes ++ be32 j.p ++ be32 j.length

/-- The cursor in status page 1: idle flag, region index and position. -/
def Patrol.cursorBytes (p : Patrol) : List Byte :=
  match p.cursor with
  | none => 1 :: List.replicate 5 0
  | some (i, q) => [0, byte1 i.val] ++ be32 q

/-- Status page 1: move engine and patrol state. -/
def State.statusPage1 (s : State) : List Byte :=
  [s.engine.mode.code, byte1 s.engine.queue.length] ++ s.engine.jobBytes ++ bytes16 s.patrol.interval
    ++ s.patrol.cursorBytes ++ bytes16 s.patrol.pass
    ++ [flagByte s.patrol.step.isSome, byte1 s.tracker.length]

/-- Status page 2: event log state. -/
def State.statusPage2 (s : State) : List Byte :=
  bytes16 s.log.nextSeq ++ [byte1 s.log.records.length] ++ be16 s.log.lost ++ bytes16 s.log.mask
    ++ [flagByte s.log.alert]

/-- GET_STATUS's execution. -/
def State.getStatus (s : State) (page : Byte) : State :=
  if page = 0 then s.ok s.statusPage0
  else if page = 1 then s.ok s.statusPage1
  else if page = 2 then s.ok s.statusPage2
  else s.badArg

/-- A counter's four bytes, most significant first. -/
def counterBytes (c : BitVec 32) : List Byte := be32 c.toNat

/-- The outcome counters of a rank: corrected, uncorrectable, poison. -/
def OutcomeCounters.bytes (c : OutcomeCounters) : List Byte :=
  counterBytes c.corrected ++ counterBytes c.uncorrectable ++ counterBytes c.poison

/-- The counters of a group (section 11.6). -/
def Counters.group (c : Counters) (g : Byte) : Option (List Byte) :=
  if g = 0 then some ((c.outcomes[(0 : Fin 4)]).bytes ++ (c.outcomes[(1 : Fin 4)]).bytes)
  else if g = 1 then some ((c.outcomes[(2 : Fin 4)]).bytes ++ (c.outcomes[(3 : Fin 4)]).bytes)
  else if g = 2 then
    some ([c.noCredit, c.tagInUse, c.badMask, c.pool, c.shadow, c.closedRegion].flatMap counterBytes)
  else if g = 3 then
    some ([c.failoverReads, c.repairsWritten, c.repairsSuperseded, c.repairsDropped].flatMap counterBytes)
  else if g = 4 then
    some ([c.passes, c.skippedExpiries, c.scrubWrites, c.scrubsSuperseded].flatMap counterBytes)
  else if g = 5 then some (c.refreshLate.toList.flatMap counterBytes)
  else none

/-- GET_COUNTERS's execution. -/
def State.getCounters (s : State) (g : Byte) : State :=
  match s.counters.group g with
  | some bytes => s.ok bytes
  | none => s.badArg

/-! ### The substitution table (R93 to R96) -/

/-- The code of a slot's state. -/
def SlotPhase.code : SlotPhase → Byte
  | .pending _ => 1
  | .copying _ => 2
  | .active => 3

/-- The next location's presence and row, 0 when absent (section 11.6). -/
def SlotPhase.nextBytes : SlotPhase → List Byte
  | .pending n => 1 :: be16 n.val
  | .copying n => 1 :: be16 n.val
  | .active => [0, 0, 0]

/-- The progress pointer that READ_SLOT reports: in COPYING, 0 otherwise (R96). -/
def State.slotPointer (s : State) (i : SlotIx) (e : SlotEntry) : Nat :=
  match e.phase with
  | .copying _ => s.windowP (.rowMove i)
  | .pending _ => 0
  | .active => 0

/-- The slot record (section 11.6). -/
def State.slotBytes (s : State) (i : SlotIx) : List Byte :=
  match s.slots[i] with
  | none => [0]
  | some e =>
    [e.phase.code, byte1 e.home.rank.val, byte1 e.home.bank.val] ++ be16 e.home.row.val ++ be16 e.current.val
      ++ e.phase.nextBytes ++ [e.cause.code, byte1 e.lost, byte1 (s.slotPointer i e)]

/-- READ_SLOT's execution (R96). -/
def State.readSlot (s : State) (slot : Byte) : State :=
  match slotOf slot with
  | some i => s.ok (s.slotBytes i)
  | none => s.badArg

/-- The OK payload of RETIRE_ROW: slot, action, spare row. -/
def retireBytes (i : SlotIx) (a : Action) (spare : RowNo) : List Byte := [byte1 i.val, a.code] ++ be16 spare.val

/-- The service port's answer to a retirement request (R82 to R88, R93). -/
def answerRetire (r : State × RetireAnswer) : State :=
  match r.2 with
  | .accepted i a spare => r.1.ok (retireBytes i a spare)
  | .refused why => r.1.refuse why.toPort
  | .merged => r.1.refuse .already

/-- Retirement without a copy: the row is the current location of an ACTIVE entry (R94). -/
def State.retargetNoCopy (s : State) (r : PhysRow) (i : SlotIx) (e : SlotEntry) : State :=
  match s.allocate e.home.rank e.home.bank with
  | none => s.refuse .noSpare
  | some (spare, s) =>
    answerRetire ((s.setSlot i (some { e with current := spare, cause := .targetFailed, lost := 0 })).acceptRetire
      i r .targetFailed .retarget spare)

/-- Retirement without a copy: the row plays no part in any entry in use (R87, R94). -/
def State.newNoCopy (s : State) (r : PhysRow) : State :=
  if s.rowSpared r then
    match s.freeSlot with
    | none => s.refuse .tableFull
    | some i =>
      match s.allocate r.rank r.bank with
      | none => s.refuse .noSpare
      | some (spare, s) =>
        let e : SlotEntry := { home := r, current := spare, phase := .active, cause := .management, lost := 0 }
        answerRetire ((s.setSlot i (some e)).acceptRetire i r .management .new spare)
  else s.refuse .notSpared

/-- Retirement without a copy, its conditions in order (R94). -/
def State.retireNoCopy (s : State) (r : PhysRow) : State :=
  if s.front.admission = .opened then s.refuse .notClosed
  else if s.front.empty = false then s.respond .busy []
  else match s.partOf r with
    | .movedHome => s.refuse .already
    | .current i e =>
      match e.phase with
      | .active => s.retargetNoCopy r i e
      | _ => s.refuse .state
    | .next _ _ => s.refuse .state
    | .none => s.newNoCopy r

/-- The physical row of a command's bytes, where rank and bank exist (R93). -/
def physRowOf (rank bank : Byte) (row : BitVec 16) : Option PhysRow :=
  match rankOf rank, bankOf bank with
  | some k, some b => some { rank := k, bank := b, row := rowOf row }
  | _, _ => none

/-- RETIRE_ROW's execution with its flag byte (R93, R94). -/
def State.retireRow (s : State) (rank bank : Byte) (row : BitVec 16) (flag : Byte) : State :=
  match physRowOf rank bank row, flagOf flag with
  | some r, some false => answerRetire (s.retire true .management r)
  | some r, some true => s.retireNoCopy r
  | _, _ => s.badArg

/-- RELEASE_SLOT's execution (R95). -/
def State.releaseSlot (s : State) (slot : Byte) : State :=
  match slotOf slot with
  | none => s.badArg
  | some i =>
    if s.front.admission = .opened then s.refuse .notClosed
    else if s.front.empty = false then s.respond .busy []
    else match s.slots[i] with
      | some { phase := .active, .. } => (s.setSlot i none).ok []
      | _ => s.refuse .state

/-- READ_CURSOR's execution (R96). -/
def State.readCursor (s : State) (rank bank : Byte) : State :=
  match rankOf rank, bankOf bank with
  | some k, some b =>
    let n := s.cursors[cursorIx k b]
    s.ok (be32 n ++ be32 (spareCount s.active k) ++
      match spareAt s.active k n with
      | some r => 1 :: be16 r.val
      | none => [0, 0, 0])
  | _, _ => s.badArg

/-! ### Mirrors (R120, R121, R126) -/

/-- The job status code and, for the job in progress, its pointer, length and lines lost (R126). -/
def State.resyncBytes (s : State) (i : RegionIx) : List Byte :=
  match s.jobFor (.resync i) with
  | some j => (if s.engine.mode = .paused then 3 else 2) :: (be32 j.p ++ be32 j.length ++ be32 j.lost)
  | none => flagByte (s.engine.queue.contains (.resync i)) :: List.replicate 12 0

/-- READ_MIRROR's execution (R126). -/
def State.readMirror (s : State) (index : Byte) : State :=
  match regionOf index with
  | none => s.badArg
  | some i =>
    s.ok ((match s.mirrors[i] with
      | none => [0, 0, 0]
      | some m => [m.state.code, byte1 m.primaryCount, byte1 m.shadowCount]) ++ s.resyncBytes i)

/-- What FAIL_SIDE does in a mirror state: the new state, or the reason it is refused (R120). -/
def failSideResult (m : MirrorState) (x : Side) : MirrorState ⊕ PortReason :=
  match m, x with
  | .duplex, x => .inl (simplexOf x.other)
  | .simplexPrimary, .shadow => .inr .already
  | .simplexPrimary, .primary => .inr .state
  | .simplexShadow, .primary => .inr .already
  | .simplexShadow, .shadow => .inr .state
  | .rebuildShadow, .shadow => .inl .simplexPrimary
  | .rebuildShadow, .primary => .inr .state
  | .rebuildPrimary, .primary => .inl .simplexShadow
  | .rebuildPrimary, .shadow => .inr .state

/-- RESYNC(i) cancelled, queued or in progress (R113). -/
def State.cancelResync (s : State) (i : RegionIx) : State := (s.removeJob (.resync i)).closeJob (.resync i)

/-- FAIL_SIDE's execution (R113, R120). -/
def State.failSide (s : State) (index side : Byte) : State :=
  match regionOf index, sideOf side with
  | some i, some x =>
    match s.mirrors[i] with
    | none => s.refuse .state
    | some m =>
      match failSideResult m.state x with
      | .inr why => s.refuse why
      | .inl m' =>
        ((((s.setMirror i (some { m with state := m' })).cancelResync i).offer
          (.mirrorSideFailed i x .management)).ok [m'.code])
  | _, _ => s.badArg

/-- What RESYNC_REGION does in a mirror state: the new state, or the reason it is refused (R121). -/
def resyncResult : MirrorState → MirrorState ⊕ PortReason
  | .simplexPrimary => .inl .rebuildShadow
  | .simplexShadow => .inl .rebuildPrimary
  | .duplex => .inr .state
  | .rebuildShadow => .inr .already
  | .rebuildPrimary => .inr .already

/-- RESYNC_REGION's execution (R121). -/
def State.resyncRegion (s : State) (index : Byte) : State :=
  match regionOf index with
  | none => s.badArg
  | some i =>
    match s.mirrors[i] with
    | none => s.refuse .state
    | some m =>
      match resyncResult m.state with
      | .inr why => s.refuse why
      | .inl m' => ((s.setMirror i (some { m with state := m' })).appendJob (.resync i)).ok [m'.code]

/-! ### Patrol, tracker and events (R128, R140, R157, R159) -/

/-- SET_PATROL's execution (R128). The timer's restart is a matter of time, which the model leaves out (log entry
11). -/
def State.setPatrol (s : State) (interval : BitVec 16) : State :=
  { s with patrol := { s.patrol with interval := interval } }.ok []

/-- READ_TRACKER's execution (R140). -/
def State.readTracker (s : State) (position : Byte) : State :=
  if position.toNat < Config.trackerSize then
    s.ok (byte1 s.tracker.length ::
      match s.tracker[position.toNat]? with
      | some e => 1 :: e.row.bytes ++ [byte1 e.region.val, byte1 e.count]
      | none => List.replicate 7 0)
  else s.badArg

/-- The answer of POP_EVENT and PEEK_EVENT: records held and lost count after the command, and the record (R157). -/
def EventLog.answerBytes (l : EventLog) (r : EventRecord) : List Byte :=
  byte1 l.records.length :: be16 l.lost ++ r.bytes

/-- PEEK_EVENT's execution (R157). -/
def State.peekEvent (s : State) : State :=
  match s.log.records with
  | [] => s.respond .empty []
  | r :: _ => s.ok (s.log.answerBytes r)

/-- POP_EVENT's execution (R156, R157). -/
def State.popEvent (s : State) : State :=
  match s.log.records with
  | [] => s.respond .empty []
  | r :: _ => { s with log := s.log.pop }.ok (s.log.pop.answerBytes r)

/-- SET_ALERT_MASK's execution (R159). -/
def State.setAlertMask (s : State) (mask : BitVec 16) : State :=
  if mask.toNat < 4096 then { s with log := { s.log with mask := mask }.judged }.ok [] else s.badArg

/-! ### Admission (R34, R35) -/

/-- OPEN_FRONT's execution (R35). -/
def State.openFront (s : State) : State :=
  if s.front.admission = .opened then s.refuse .already
  else if s.front.empty = false then s.respond .busy []
  else
    let s := { s with front := { s.front with admission := .opened } }
    (if s.front.creditsStarted then s.initialCredit else s).ok []

/-- CLOSE_FRONT's execution (R34). -/
def State.closeFront (s : State) : State :=
  if s.front.admission = .closed then s.refuse .already
  else
    { s with front := { s.front with
        admission := .closed, readBalance := 0, writeBalance := 0, readOwed := 0, writeOwed := 0 } }.ok []

/-! ### Frames that fail a check (R163, R164) -/

/-- The result of a failed check. -/
def failureResult : FrameFailure → Result
  | .badLength => .badLength
  | .badFrame => .badFrame
  | .badCommand => .badCommand

/-- A write transaction whose frame fails a check: the response frame carries the result, and nothing else changes
(R164). A transaction without a byte is no command (R163); a frame that passes is another row's command. -/
def State.frameInvalid (s : State) (frame : List Byte) : State :=
  if frame = [] then s
  else match frameFailure frame with
    | some f => s.respond (failureResult f) []
    | none => s

/-! ### The bus (R162, R163, R166; DESIGN CHOICE, log entry 15) -/

/-- What happens on the bus between two STOPs: a START or repeated START with its address byte, a byte written, and the
two edges of each of the two resets, RESET_N and power-on reset, which samples the straps (R162, R163). -/
inductive BusEvent where
  | start (address : BitVec 7) (reading : Bool)
  | byte (value : Byte)
  | resetAsserted
  | resetReleased
  | powerOnAsserted
  | powerOnReleased (straps : BitVec 2)
deriving DecidableEq, Repr, Inhabited

/-- What the port holds at a moment on the bus: its own address, whether RESET_N and whether power-on reset is asserted,
and the bytes of the frame that it is taking, where it is taking one. -/
structure BusView where
  address : BitVec 7
  resetN : Bool
  powerOn : Bool
  frame : Option (List Byte)
deriving DecidableEq, Repr, Inhabited

/-- The view between two transactions: no frame is being taken, and power-on reset has been released (log entry 6). -/
def State.busView (s : State) : BusView :=
  { address := s.port.address, resetN := s.resetN, powerOn := false, frame := none }

/-- The port acknowledges the address, for writing or reading: its own, with neither reset asserted (R162). -/
def BusView.acknowledges (v : BusView) (address : BitVec 7) : Bool :=
  !v.resetN && !v.powerOn && decide (address = v.address)

/-- The port acknowledges the address between two transactions (R162). -/
def State.acknowledges (s : State) (address : BitVec 7) : Bool := s.busView.acknowledges address

/-- The port acknowledges the byte that `before` bytes precede in a write transaction: the first 32 (R163). -/
def acknowledgesByte (before : Nat) : Bool := decide (before < 32)

/-- The port at one event of the bus. A START of a write whose address it acknowledges begins a frame; any other START,
and either edge of either reset, leaves it without one (R162, R163). The release of power-on reset leaves the address of
the straps, and RESET_N deasserted (R162, log entry 6). -/
def BusView.after (v : BusView) : BusEvent → BusView
  | .start address reading => { v with frame := if v.acknowledges address && !reading then some [] else none }
  | .byte b => { v with frame := v.frame.map fun bytes => bytes ++ [b] }
  | .resetAsserted => { v with resetN := true, frame := none }
  | .resetReleased => { v with resetN := false, frame := none }
  | .powerOnAsserted => { v with powerOn := true, frame := none }
  | .powerOnReleased straps => { address := strapAddress straps, resetN := false, powerOn := false, frame := none }

/-- The command taken at a STOP, from the view at the STOP before it and the events since: that of the frame the port is
then taking, where it has at least one byte (R162, R163, R164). A transaction that a reset falls upon, warm or power-on,
is dropped with its frame (R162). -/
def BusView.commandAtStop (v : BusView) (events : List BusEvent) : Option Instr :=
  match (events.foldl BusView.after v).frame with
  | none => none
  | some bytes => decodeFrame bytes

/-- The bytes that a read transaction of `n` bytes returns: the current response frame from its first byte, then
0xFF (R166). It changes no state. -/
def ServicePort.readOut (p : ServicePort) (n : Nat) : List Byte :=
  p.response.take n ++ List.replicate (n - p.response.length) 0xFF

/-! ### The commands -/

/-- GET_STATUS (R168). -/
def execGetStatus (page : Byte) (s : State) : Host.Outcome State Fault Refusal := s.atPort fun s => s.getStatus page

/-- GET_COUNTERS (R168). -/
def execGetCounters (group : Byte) (s : State) : Host.Outcome State Fault Refusal :=
  s.atPort fun s => s.getCounters group

/-- CLEAR_COUNTERS (R11, R54, R74, R141, R153, R168). -/
def execClearCounters (s : State) : Host.Outcome State Fault Refusal :=
  s.atPort fun s => { s with counters := .zero }.ok []

/-- READ_SLOT (R96). -/
def execReadSlot (slot : Byte) (s : State) : Host.Outcome State Fault Refusal := s.atPort fun s => s.readSlot slot

/-- RETIRE_ROW (R81 to R88, R93). -/
def execRetireRow (rank bank : Byte) (row : BitVec 16) (flag : Byte) (s : State) : Host.Outcome State Fault Refusal :=
  s.atPort fun s => s.retireRow rank bank row flag

/-- RETIRE_ROW with NO_COPY on (R93, R94). -/
def execRetireRowNoCopy (rank bank : Byte) (row : BitVec 16) (s : State) : Host.Outcome State Fault Refusal :=
  s.atPort fun s =>
    match physRowOf rank bank row with
    | some r => s.retireNoCopy r
    | none => s.badArg

/-- RELEASE_SLOT (R95). -/
def execReleaseSlot (slot : Byte) (s : State) : Host.Outcome State Fault Refusal :=
  s.atPort fun s => s.releaseSlot slot

/-- READ_CURSOR (R96). -/
def execReadCursor (rank bank : Byte) (s : State) : Host.Outcome State Fault Refusal :=
  s.atPort fun s => s.readCursor rank bank

/-- READ_MIRROR (R126). -/
def execReadMirror (index : Byte) (s : State) : Host.Outcome State Fault Refusal :=
  s.atPort fun s => s.readMirror index

/-- FAIL_SIDE (R113, R120). -/
def execFailSide (index side : Byte) (s : State) : Host.Outcome State Fault Refusal :=
  s.atPort fun s => s.failSide index side

/-- RESYNC_REGION (R121). -/
def execResyncRegion (index : Byte) (s : State) : Host.Outcome State Fault Refusal :=
  s.atPort fun s => s.resyncRegion index

/-- SET_PATROL (R128). -/
def execSetPatrol (interval : BitVec 16) (s : State) : Host.Outcome State Fault Refusal :=
  s.atPort fun s => s.setPatrol interval

/-- READ_TRACKER (R140). -/
def execReadTracker (position : Byte) (s : State) : Host.Outcome State Fault Refusal :=
  s.atPort fun s => s.readTracker position

/-- POP_EVENT (R156, R157). -/
def execPopEvent (s : State) : Host.Outcome State Fault Refusal := s.atPort State.popEvent

/-- PEEK_EVENT (R157). -/
def execPeekEvent (s : State) : Host.Outcome State Fault Refusal := s.atPort State.peekEvent

/-- SET_ALERT_MASK (R159). -/
def execSetAlertMask (mask : BitVec 16) (s : State) : Host.Outcome State Fault Refusal :=
  s.atPort fun s => s.setAlertMask mask

/-- OPEN_FRONT (R35). -/
def execOpenFront (s : State) : Host.Outcome State Fault Refusal := s.atPort State.openFront

/-- CLOSE_FRONT (R34). -/
def execCloseFront (s : State) : Host.Outcome State Fault Refusal := s.atPort State.closeFront

/-- COMMAND_FRAME_INVALID (R163, R164). -/
def execCommandFrameInvalid (frame : List Byte) (s : State) : Host.Outcome State Fault Refusal :=
  s.atPort fun s => s.frameInvalid frame

end Sys2Proof.Machine
end

