-- ==== Sys2Proof/Machine/Dispatch.lean ====
section
/-! DEFINITION. The dispatch: one arm for each command, one direct call of its meaning. -/

namespace Sys2Proof.Machine

def exec (i : Instr) (s : State) : Host.Outcome State Fault Refusal :=
  match i with
  | .read tag la => Sys2Proof.Machine.execRead tag la s
  | .write tag la data => Sys2Proof.Machine.execWrite tag la data s
  | .maskedWrite tag la enables data => Sys2Proof.Machine.execMaskedWrite tag la enables data s
  | .credit => Sys2Proof.Machine.execCredit s
  | .issueRead tag => Sys2Proof.Machine.execIssueRead tag s
  | .mergeReadIssue tag => Sys2Proof.Machine.execMergeReadIssue tag s
  | .writeEntryIssue la => Sys2Proof.Machine.execWriteEntryIssue la s
  | .hostReadComplete rank bank disturb => Sys2Proof.Machine.execHostReadComplete rank bank disturb s
  | .failoverReadComplete rank bank disturb => Sys2Proof.Machine.execFailoverReadComplete rank bank disturb s
  | .mergeReadComplete rank bank disturb => Sys2Proof.Machine.execMergeReadComplete rank bank disturb s
  | .entryWriteComplete rank bank => Sys2Proof.Machine.execEntryWriteComplete rank bank s
  | .schedulerGrant rank => Sys2Proof.Machine.execSchedulerGrant rank s
  | .repairWriteComplete rank bank => Sys2Proof.Machine.execRepairWriteComplete rank bank s
  | .scrubWriteComplete rank bank => Sys2Proof.Machine.execScrubWriteComplete rank bank s
  | .refreshComplete rank => Sys2Proof.Machine.execRefreshComplete rank s
  | .refreshTimerExpiry rank => Sys2Proof.Machine.execRefreshTimerExpiry rank s
  | .patrolTimerExpiry => Sys2Proof.Machine.execPatrolTimerExpiry s
  | .patrolReadComplete rank bank disturb => Sys2Proof.Machine.execPatrolReadComplete rank bank disturb s
  | .jobStart => Sys2Proof.Machine.execJobStart s
  | .lineStepBegin => Sys2Proof.Machine.execLineStepBegin s
  | .moveReadComplete rank bank disturb => Sys2Proof.Machine.execMoveReadComplete rank bank disturb s
  | .targetWriteComplete rank bank => Sys2Proof.Machine.execTargetWriteComplete rank bank s
  | .qreqAssert => Sys2Proof.Machine.execQreqAssert s
  | .qreqDeassert => Sys2Proof.Machine.execQreqDeassert s
  | .drainComplete => Sys2Proof.Machine.execDrainComplete s
  | .selfRefreshEntryComplete rank => Sys2Proof.Machine.execSelfRefreshEntryComplete rank s
  | .selfRefreshExitComplete rank => Sys2Proof.Machine.execSelfRefreshExitComplete rank s
  | .rankInitComplete rank => Sys2Proof.Machine.execRankInitComplete rank s
  | .powerOnReset straps => Sys2Proof.Machine.execPowerOnReset straps s
  | .warmResetAssert => Sys2Proof.Machine.execWarmResetAssert s
  | .warmResetRelease => Sys2Proof.Machine.execWarmResetRelease s
  | .getStatus page => Sys2Proof.Machine.execGetStatus page s
  | .getCounters group => Sys2Proof.Machine.execGetCounters group s
  | .clearCounters => Sys2Proof.Machine.execClearCounters s
  | .stageRegion index valid rank first last policy patrol threshold => Sys2Proof.Machine.execStageRegion index valid rank first last policy patrol threshold s
  | .readRegion index selector => Sys2Proof.Machine.execReadRegion index selector s
  | .commitRegions => Sys2Proof.Machine.execCommitRegions s
  | .readSlot slot => Sys2Proof.Machine.execReadSlot slot s
  | .retireRow rank bank row flag => Sys2Proof.Machine.execRetireRow rank bank row flag s
  | .retireRowNoCopy rank bank row => Sys2Proof.Machine.execRetireRowNoCopy rank bank row s
  | .releaseSlot slot => Sys2Proof.Machine.execReleaseSlot slot s
  | .readCursor rank bank => Sys2Proof.Machine.execReadCursor rank bank s
  | .readMirror index => Sys2Proof.Machine.execReadMirror index s
  | .failSide index side => Sys2Proof.Machine.execFailSide index side s
  | .resyncRegion index => Sys2Proof.Machine.execResyncRegion index s
  | .setPatrol interval => Sys2Proof.Machine.execSetPatrol interval s
  | .readTracker position => Sys2Proof.Machine.execReadTracker position s
  | .popEvent => Sys2Proof.Machine.execPopEvent s
  | .peekEvent => Sys2Proof.Machine.execPeekEvent s
  | .setAlertMask mask => Sys2Proof.Machine.execSetAlertMask mask s
  | .openFront => Sys2Proof.Machine.execOpenFront s
  | .closeFront => Sys2Proof.Machine.execCloseFront s
  | .commandFrameInvalid frame => Sys2Proof.Machine.execCommandFrameInvalid frame s

end Sys2Proof.Machine
end

