-- ==== Sys2Proof/Safety.lean ====
section
/-! DEFINITION. What the spec says holds of the block at every moment: the event log's numbering, the credit sums,
the bounds of the rank schedulers and of the error tracker, the shape of the region table and of its mirror records,
the job queue, the spare cursors, and the conditions behind QACK_N, each a predicate on one state; and the words in which
the statements say what a step leaves. -/

namespace Sys2Proof.Machine

/-! ### Words of the rules -/

/-- The result of a decode lets a request be accepted: PLAIN, SPARED or MIRRORED (R19). -/
def Decoded.accepts : Decoded → Bool
  | .region _ .plain _ => true
  | .region _ .spared _ => true
  | .region _ .mirrored _ => true
  | .region _ .pool _ => false
  | .region _ .closed _ => false
  | .shadow _ => false
  | .undecoded => true

/-- `e` is the newest entry for the line in the queue, with the entries older and newer than it (R46). -/
def newestFor (q older newer : List QueueEntry) (la : LineAddr) (e : QueueEntry) : Prop :=
  q = older ++ e :: newer ∧ e.la = la ∧ ∀ x ∈ newer, x.la ≠ la

/-- `e` is the oldest entry for the line in the queue, with the entries older and newer than it (R46). -/
def oldestFor (q older newer : List QueueEntry) (la : LineAddr) (e : QueueEntry) : Prop :=
  q = older ++ e :: newer ∧ e.la = la ∧ ∀ x ∈ older, x.la ≠ la

/-- The read with the tag in the tracker, with the reads before and after it (R43). -/
def trackedAs (t before after : List TrackedRead) (r : TrackedRead) : Prop :=
  t = before ++ r :: after ∧ ∀ x ∈ before, x.tag ≠ r.tag

/-- The line operation in progress on a bank whose result is not discarded (R142). -/
def State.carries (s : State) (k : RankNo) (b : BankNo) (o : LineOp) : Prop :=
  s.inBank k b = some o ∧ o.abandoned = false

/-- The state with a host read answered: READ DATA sent, the read out of the tracker, its credit owed while admission is
OPEN (R36, R44). -/
def State.withReadAnswer (u : State) (before after : List TrackedRead) (tag : Tag) (d : LineData) (o : ReadResult) :
    State :=
  { u with
    sent := u.sent ++ [.readData tag d o]
    front := { u.front with
      tracker := before ++ after
      readOwed := u.front.readOwed + if u.front.admission = .opened then 1 else 0 } }

/-- The state with the merge of one entry complete, `f` its new contents: the entry QUEUED in its place, WRITE ACK sent,
every read held for the merge answered from `f`, their credits owed while admission is OPEN (R45, R50). -/
def State.withMerge (u : State) (older newer : List QueueEntry) (la : LineAddr) (tag : Tag) (f : LineForm) : State :=
  let held := u.front.tracker.filter fun t => decide (t.state = .heldForMerge tag)
  { u with
    sent := u.sent ++ .writeAck tag (if f = .poison then .mergedPoison else .done) ::
      held.map fun t => match f with
        | .data d => .readData t.tag d .ok
        | .poison => .readData t.tag (Vector.replicate 64 0) .poisoned
    front := { u.front with
      queue := older ++ { la := la, state := .queued f } :: newer
      tracker := u.front.tracker.filter fun t => decide (t.state ≠ .heldForMerge tag)
      readOwed := u.front.readOwed + if u.front.admission = .opened then held.length else 0 } }

/-- The contents of a MERGING entry after its merge from what a read delivered (R9, R50). -/
def mergedFrom (r : Reading) (m : BitVec 64) (d : LineData) : LineForm :=
  match r.outcome with
  | .clean | .corrected => .data (Vector.ofFn fun i : Fin 64 => if m.getLsbD i.val then d[i] else r.data[i])
  | .uncorrectable | .poison => .poison

/-- One more on a saturating 32-bit counter. -/
def countUp (n : BitVec 32) : BitVec 32 := if n = 0xFFFFFFFF then n else n + 1

/-- A line operation as it is placed: no mark, no reset behind it (R56, R68). -/
def placedOp (kind : OpKind) (la : LineAddr) (l : Loc) : LineOp :=
  { kind := kind, la := la, loc := l, superseded := false, abandoned := false }

/-- The rank schedulers with one more line operation, youngest on its rank (R143). -/
def State.ranksWith (s : State) (o : LineOp) : Vector RankSched 4 :=
  s.ranks.set o.loc.rank { s.ranks[o.loc.rank] with placed := (s.ranks[o.loc.rank]).placed ++ [o] }

/-- The patrol step with one of its operations done: the last one ends it (R133). -/
def patrolLess (p : Option PatrolStep) : Option PatrolStep :=
  match p with
  | none => none
  | some p => if p.outstanding ≤ 1 then none else some { p with outstanding := p.outstanding - 1 }

/-- What a scheduler's own scrub place lets through (R136): the scrub write that waits with the patrol step placed, with
the mark it has gathered, and waiting no longer. -/
def State.withWaitingScrub (t : State) : State :=
  match t.patrol.step with
  | none => t
  | some p =>
    match p.waiting with
    | none => t
    | some w => { t with
        ranks := t.ranksWith { placedOp (.scrubWrite w.data w.cls) p.la w.loc with superseded := w.superseded }
        patrol := { t.patrol with step := some { p with waiting := none } } }

/-- The state with the oldest entry for a line, its contents `f` and its place in the queue given, passed to the router:
by its route ISSUED with one rank write and its placement notice at each location, HELD and recorded against the line
step in flight, or, STALE, gone with its credit owed while admission is OPEN (R51, R58, R61, R107). -/
def State.passedOn (t : State) (la : LineAddr) (f : LineForm) (older newer : List QueueEntry) : State :=
  match t.writeRoute la with
  | .places locs =>
    { locs.foldl (State.placeEntryWrite la f) t with
      front := { t.front with queue := older ++ { la := la, state := .issued f locs.length } :: newer } }
  | .hold =>
    { t with
      front := { t.front with queue := older ++ { la := la, state := .held f } :: newer }
      engine := { t.engine with
        job := t.engine.job.map fun j => { j with step := j.step.map fun st => { st with held := some la } } } }
  | .stale =>
    { t with front := { t.front with
        queue := older ++ newer
        writeOwed := t.front.writeOwed + if t.front.admission = .opened then 1 else 0 } }

/-- `u` is `t` once the held entry of a line step, where it has one, is released (R107): passed to the router again in
the state `t`. -/
def State.released (t : State) (held : Option LineAddr) (u : State) : Prop :=
  match held with
  | none => u = t
  | some la => ∀ (f : LineForm) (older newer : List QueueEntry),
    oldestFor t.front.queue older newer la { la := la, state := .held f } → u = t.passedOn la f older newer

/-- A line step with the discarded mark: its held entry is released and what it counted as lost is taken back (R90,
R107, R111, R112, R113). -/
def LineStep.dropped (st : LineStep) : LineStep := { st with discarded := true, held := none, lost := false }

/-- The pointer and the step of the copy window for a job (R60): those of the job in progress, if it is this one and
is not closed; 0 and none otherwise. -/
def State.windowIs (s : State) (ref : JobRef) (p : Nat) (stepping : Bool) : Prop :=
  match s.engine.job with
  | none => p = 0 ∧ stepping = false
  | some j =>
    if j.ref = ref ∧ j.closed = false then
      p = j.p ∧ stepping = (match j.step with
        | none => false
        | some st => !st.discarded)
    else p = 0 ∧ stepping = false

/-- The stripe of the rank lies in a valid POOL entry of the table: the POOL set of R26. -/
def poolStripe (t : RegionTable) (k : RankNo) (n : RowNo) : Prop :=
  ∃ i : RegionIx, (t[i]).valid = true ∧ (t[i]).rank.toNat = k.val ∧ (t[i]).policy = .pool
    ∧ (t[i]).first.toNat ≤ n.val ∧ n.val ≤ (t[i]).last.toNat

/-- The entries name the same mirrored region: the identity of R27. -/
def sameMirrored (e f : RegionEntry) : Prop :=
  e.valid = true ∧ f.valid = true ∧ e.policy = .mirrored ∧ f.policy = .mirrored
    ∧ e.rank = f.rank ∧ e.first = f.first ∧ e.last = f.last

/-! ### Words of the patrol walk (R130, R131) -/

/-- The region is patrolled: valid, with its patrol flag on (R130). -/
def State.patrolled (s : State) (i : RegionIx) : Prop := (s.active[i]).valid = true ∧ (s.active[i]).patrol = true

/-- The position is to be read (R131): not in a mirrored region that is being rebuilt, and not in a row of a SPARED
region that is being moved or about to be. -/
def State.toBeRead (s : State) (i : RegionIx) (q : Nat) : Prop :=
  ((s.active[i]).policy = .mirrored → ∃ m ∈ s.mirrors[i], m.state ≠ .rebuildShadow ∧ m.state ≠ .rebuildPrimary)
    ∧ ((s.active[i]).policy = .spared →
      ∀ n : SlotIx, ∀ e ∈ s.slots[n], e.home = homeRow ((s.active[i]).lineAt q) → e.phase = .active)

/-- The first position to be read, in the order of region index and position, of those that lie `ahead`. -/
def State.firstRead (s : State) (ahead : RegionIx → Nat → Prop) (i : RegionIx) (q : Nat) : Prop :=
  ahead i q ∧ q < (s.active[i]).positions ∧ s.toBeRead i q
    ∧ ∀ (j : RegionIx) (p : Nat), ahead j p → p < (s.active[j]).positions → j < i ∨ (j = i ∧ p < q) → ¬ s.toBeRead j p

/-- No position to be read lies `ahead`. -/
def State.noneToRead (s : State) (ahead : RegionIx → Nat → Prop) : Prop :=
  ∀ (j : RegionIx) (p : Nat), ahead j p → p < (s.active[j]).positions → ¬ s.toBeRead j p

/-- What lies ahead of a cursor up to the wrap: the rest of its region, and the patrolled regions above it (R130). -/
def State.aheadOf (s : State) (i : RegionIx) (q : Nat) (j : RegionIx) (p : Nat) : Prop :=
  (j = i ∧ q ≤ p) ∨ (i < j ∧ s.patrolled j)

/-- The cursor past a position: the next one of its region, or position 0 of the next patrolled region, or, at a wrap,
of the lowest (R130). -/
def State.cursorPast (s : State) (i : RegionIx) (q : Nat) (cursor : Option (RegionIx × Nat)) (wraps : Bool) : Prop :=
  if q + 1 < (s.active[i]).positions then cursor = some (i, q + 1) ∧ wraps = false
  else
    (∃ j : RegionIx, i < j ∧ s.patrolled j ∧ (∀ n : RegionIx, i < n → n < j → ¬ s.patrolled n) ∧ cursor = some (j, 0)
        ∧ wraps = false)
      ∨ ((∀ n : RegionIx, i < n → ¬ s.patrolled n) ∧ wraps = true ∧ ∃ j : RegionIx, s.patrolled j
        ∧ (∀ n : RegionIx, n < j → ¬ s.patrolled n) ∧ cursor = some (j, 0))

/-- Where the (first) read of a position goes, and what the step records, by policy and mirror state (R131, R133). -/
def State.patrolLookup (s : State) (i : RegionIx) (la : LineAddr) (treat : PatrolTreat) (turn : PatrolTurn) (l : Loc) :
    Prop :=
  ((s.active[i]).policy = .plain ∧ treat = .plain ∧ turn = .single ∧ l = homeLoc la)
    ∨ ((s.active[i]).policy = .spared ∧ treat = .spared ∧ turn = .single
      ∧ (((∀ n : SlotIx, ∀ e ∈ s.slots[n], e.home ≠ homeRow la) ∧ l = homeLoc la)
        ∨ ∃ n : SlotIx, ∃ e ∈ s.slots[n], e.home = homeRow la ∧ l = { homeLoc la with row := e.current }))
    ∨ ((s.active[i]).policy = .mirrored ∧ ∃ m ∈ s.mirrors[i],
      (m.state = .duplex ∧ treat = .duplex m.born ∧ turn = .primary ∧ l = homeLoc la)
        ∨ (m.state = .simplexPrimary ∧ treat = .simplex .primary m.born ∧ turn = .single ∧ l = homeLoc la)
        ∨ (m.state = .simplexShadow ∧ treat = .simplex .shadow m.born ∧ turn = .single
          ∧ l = { homeLoc la with rank := (homeLoc la).rank + 1 }))

/-- The patrol step of a position begun: its first read placed in the PATROL class, the cursor moved (R131, R133). -/
def State.patrolBegun (t : State) (i : RegionIx) (q : Nat) (treat : PatrolTreat) (turn : PatrolTurn) (l : Loc)
    (cursor : Option (RegionIx × Nat)) : State :=
  let la := (t.active[i]).lineAt q
  { t with
    ranks := t.ranksWith (placedOp (.patrolRead turn) la l)
    patrol := { t.patrol with
      cursor := cursor
      step := some { region := i, treat := treat, la := la, outstanding := 1, first := none, waiting := none } } }

/-- A patrol pass ended: the pass number and the passes counter raised, the tracker decayed, PATROL_PASS offered (R130,
R140). -/
def State.passEnded (t : State) : State :=
  { t with
    counters := { t.counters with passes := countUp t.counters.passes }
    tracker := (t.tracker.map fun e => { e with count := e.count / 2 }).filter fun e => decide (0 < e.count)
    log := t.log.offer (.patrolPass (t.patrol.pass + 1))
    patrol := { t.patrol with pass := t.patrol.pass + 1 } }

/-! ### Words of the service port and of the substitution table -/

/-- The answer of a command in the response frame (R166, R167), all else as it was. -/
def State.answering (s : State) (result : Byte) (payload : List Byte) : State :=
  { s with port := { s.port with response := frameBytes result payload } }

/-- REFUSED with a reason, the index byte 0xFF (R167). -/
def State.refusing (s : State) (reason : Byte) : State := s.answering 0x06 [reason, 0xFF]

/-- The row plays no part in any entry in use: case (d) of R81. -/
def State.rowApart (s : State) (r : PhysRow) : Prop :=
  ∀ n : SlotIx, ∀ e ∈ s.slots[n], e.home ≠ r ∧ e.currentRow ≠ r ∧ e.nextRow ≠ some r

/-- The lowest-numbered FREE slot (R80). -/
def State.lowestFree (s : State) (i : SlotIx) : Prop := s.slots[i] = none ∧ ∀ n : SlotIx, n < i → s.slots[n] ≠ none

/-! ### The stored lines -/

/-- The stored lines are in their canonical form (log entry 5). -/
def State.StoreSound (s : State) : Prop := s.store.wf = true

/-! ### The event log (R154, R155, R156, R158) -/

/-- The sequence numbers of the records count up to the next sequence number without a gap. -/
def EventLog.numbered (l : EventLog) : Prop :=
  ∀ i : Fin l.records.length, (l.records[i]).seq = l.nextSeq - BitVec.ofNat 16 (l.records.length - i.val)

/-- At most 32 records, numbered consecutively; the lost count above 0 only while the log is full; ALERT_N as R158
judges it. -/
def EventLog.Sound (l : EventLog) : Prop :=
  l.records.length ≤ 32 ∧ l.numbered ∧ l.lost ≤ 65535 ∧ (0 < l.lost → l.records.length = 32)
    ∧ l.alert = alertCondition l.mask l.records

/-! ### The front link (R36, R42, R43, R46) -/

/-- The tag a write queue entry holds: that of its MASKED WRITE while it is MERGING (R42, R46). -/
def QueueEntry.tag (e : QueueEntry) : Option Tag :=
  match e.state with
  | .merging t _ _ _ => some t
  | .queued _ => none
  | .held _ => none
  | .issued _ _ => none

/-- The tags held by outstanding requests (R42). -/
def FrontLink.tagsHeld (f : FrontLink) : List Tag := f.tracker.map (·.tag) ++ f.queue.filterMap QueueEntry.tag

/-- The credit sums of R36, and what stands around them: no credit held or owed while admission is CLOSED or credits
have not started, nothing accepted before credits start, and no tag held twice. -/
def FrontLink.Sound (f : FrontLink) : Prop :=
  (f.admission = .opened → f.creditsStarted = true →
      f.readBalance + f.readOwed + f.tracker.length = 32 ∧ f.writeBalance + f.writeOwed + f.queue.length = 24)
    ∧ (f.admission = .closed ∨ f.creditsStarted = false →
      f.readBalance = 0 ∧ f.readOwed = 0 ∧ f.writeBalance = 0 ∧ f.writeOwed = 0)
    ∧ (f.creditsStarted = false → f.tracker = [] ∧ f.queue = [])
    ∧ f.tracker.length ≤ 32 ∧ f.queue.length ≤ 24 ∧ f.tagsHeld.Nodup

/-! ### The rank schedulers (R67, R142, R146, R147) -/

/-- The repair writes placed with a scheduler and not yet granted. -/
def RankSched.repairs (r : RankSched) : Nat := (r.placed.filter fun o => o.kind.isRepair).length

/-- The scrub writes placed with a scheduler and not yet granted. -/
def RankSched.scrubs (r : RankSched) : Nat := (r.placed.filter fun o => o.kind.isScrub).length

/-- A rank scheduler within its bounds, its operations on its own rank, and each bank slot carrying an operation of
its own bank. -/
def RankSched.Sound (k : RankNo) (r : RankSched) : Prop :=
  r.debt ≤ 8 ∧ r.moveWait ≤ 16 ∧ r.repairs ≤ 15 ∧ (∀ o ∈ r.placed, o.loc.rank = k)
    ∧ ∀ b : BankNo, ∀ o ∈ r.banks[b], o.loc.rank = k ∧ o.loc.bank = b

/-- Every rank scheduler is sound, and one scrub write at most is placed and not yet granted in the whole buffer
(R136). -/
def State.RanksSound (s : State) : Prop :=
  (∀ k : RankNo, (s.ranks[k]).Sound k) ∧ (s.ranks.toList.map RankSched.scrubs).sum ≤ 1

/-! ### The error tracker (R138) -/

/-- At most 32 entries, one for a row, counts from 1 to 255. -/
def State.TrackerSound (s : State) : Prop :=
  s.tracker.length ≤ 32 ∧ (s.tracker.map (·.row)).Nodup ∧ ∀ e ∈ s.tracker, 1 ≤ e.count ∧ e.count ≤ 255

/-! ### The region table and the mirror records (R13, R15, R18, R23, R24, R116) -/

/-- The entry passes the range check (R23). -/
def RegionEntry.InRange (e : RegionEntry) : Prop :=
  e.valid = true →
    e.rank.toNat ≤ 3 ∧ e.first.toNat ≤ e.last.toNat ∧ (e.policy = .spared → e.threshold ≠ 0)
      ∧ (e.policy = .mirrored → e.rank.toNat = 0 ∨ e.rank.toNat = 2)

/-- The runs of the entries share no stripe number. -/
def RegionEntry.Apart (e f : RegionEntry) : Prop := e.last.toNat < f.first.toNat ∨ f.last.toNat < e.first.toNat

/-- The table passes the range and overlap checks (R23, R24). -/
def tableSound (t : RegionTable) : Prop :=
  (∀ i : RegionIx, (t[i]).InRange)
    ∧ ∀ i j : RegionIx, (t[i]).valid = true → (t[j]).valid = true →
        ((i ≠ j ∧ (t[i]).rank = (t[j]).rank) ∨
          ((t[j]).policy = .mirrored ∧ (t[i]).rank.toNat = (t[j]).rank.toNat + 1)) → (t[i]).Apart t[j]

/-- Patrol is off for POOL and CLOSED, and the threshold is 0 for every policy but SPARED (R13, R15). -/
def RegionEntry.Normal (e : RegionEntry) : Prop :=
  (e.policy = .pool ∨ e.policy = .closed → e.patrol = false) ∧ (e.policy ≠ .spared → e.threshold = 0)

/-- The active table has passed its checks, both tables hold normalised entries, and there is a mirror record, with
counts up to 4, for exactly the valid MIRRORED entries. -/
def State.RegionsSound (s : State) : Prop :=
  tableSound s.active ∧ (∀ i : RegionIx, (s.active[i]).Normal ∧ (s.staged[i]).Normal)
    ∧ (∀ i : RegionIx, (s.mirrors[i]).isSome = ((s.active[i]).valid && decide ((s.active[i]).policy = .mirrored)))
    ∧ ∀ i : RegionIx, ∀ m ∈ s.mirrors[i], m.primaryCount ≤ 4 ∧ m.shadowCount ≤ 4

/-! ### The substitution table and the job queue (R76, R77, R99, R100) -/

/-- The slot is PENDING. -/
def State.slotPending (s : State) (i : SlotIx) : Bool :=
  match s.slots[i] with
  | some { phase := .pending _, .. } => true
  | _ => false

/-- The slot is COPYING. -/
def State.slotCopying (s : State) (i : SlotIx) : Bool :=
  match s.slots[i] with
  | some { phase := .copying _, .. } => true
  | _ => false

/-- The region is in a REBUILD state. -/
def State.regionRebuilding (s : State) (i : RegionIx) : Bool :=
  match s.mirrors[i] with
  | some m => m.state == .rebuildShadow || m.state == .rebuildPrimary
  | none => false

/-- No physical row is the home row of two entries in use (R76). -/
def State.HomesApart (s : State) : Prop :=
  ∀ i j : SlotIx, ∀ e ∈ s.slots[i], ∀ f ∈ s.slots[j], e.home = f.home → i = j

/-- The row is a spare of the bank that has been taken: it stands below the bank's cursor in the spare order (R79,
R80). -/
def State.spareTaken (s : State) (k : RankNo) (b : BankNo) (r : RowNo) : Prop :=
  ∃ n, n < s.cursors[cursorIx k b] ∧ spareAt s.active k n = some r

/-- Every spare cursor stands within the spares of its rank (R79). An entry in use has its home row in a SPARED region;
its current location is its home row, but not in ACTIVE, or a spare that has been taken, and its next location is a
spare that has been taken (R76, R77). No physical row is the location of two entries, or both locations of one (R76). -/
def State.SparesSound (s : State) : Prop :=
  (∀ (k : RankNo) (b : BankNo), s.cursors[cursorIx k b] ≤ spareCount s.active k)
    ∧ (∀ i : SlotIx, ∀ e ∈ s.slots[i],
      (∃ j patrol, decodeRow s.active e.home = .region j .spared patrol)
        ∧ ((e.current = e.home.row ∧ e.phase ≠ .active) ∨ s.spareTaken e.home.rank e.home.bank e.current)
        ∧ ∀ r ∈ e.nextRow, s.spareTaken e.home.rank e.home.bank r.row)
    ∧ ∀ i j : SlotIx, ∀ e ∈ s.slots[i], ∀ f ∈ s.slots[j],
      (e.currentRow = f.currentRow → i = j) ∧ e.nextRow ≠ some f.currentRow
        ∧ (e.nextRow ≠ none → e.nextRow = f.nextRow → i = j)

/-- A job that is closed waits only for its discarded step (R112, R113). -/
def Engine.closedWaits (e : Engine) : Prop := ∀ j ∈ e.job, j.closed = true → ∃ st ∈ j.step, st.discarded = true

/-- Each reference is in the job queue at most once; ROW_MOVE of the PENDING slots are the row moves queued and that
of the COPYING slot is in progress; RESYNC of each rebuilding region is queued or in progress; the engine is IDLE when
it has no job. -/
def State.JobsSound (s : State) : Prop :=
  s.engine.queue.Nodup
    ∧ (∀ i : SlotIx, .rowMove i ∈ s.engine.queue ↔ s.slotPending i = true)
    ∧ (∀ i : SlotIx, (s.jobFor (.rowMove i)).isSome = s.slotCopying i)
    ∧ (∀ i : RegionIx, (.resync i ∈ s.engine.queue ∨ (s.jobFor (.resync i)).isSome = true)
        ↔ s.regionRebuilding i = true)
    ∧ (∀ i : RegionIx, (s.jobFor (.resync i)).isSome = true → .resync i ∉ s.engine.queue)
    ∧ (s.engine.mode = .idle ↔ s.engine.job = none)
    ∧ s.engine.closedWaits

/-! ### Quiesce (R142, R148 to R152) -/

/-- INITIALIZING, its initialization placed or in progress (R148). -/
def RankSched.starting (r : RankSched) : Bool :=
  r.state == .initializing
    && ((r.widePlaced == some .init && r.wide == none) || (r.widePlaced == none && r.wide == some .init))

/-- OPERATING, with no rank-wide operation but a REFRESH. -/
def RankSched.serving (r : RankSched) : Bool :=
  r.state == .operating && r.widePlaced == none && (r.wide == none || r.wide == some .refresh)

/-- OPERATING with self-refresh entry placed (R150). -/
def RankSched.entryWaits (r : RankSched) : Bool :=
  r.state == .operating && r.widePlaced == some .entry && (r.wide == none || r.wide == some .refresh)

/-- OPERATING with self-refresh entry in progress (R142). -/
def RankSched.entryRuns (r : RankSched) : Bool :=
  r.state == .operating && r.widePlaced == none && r.wide == some .entry

/-- In self-refresh with nothing placed or in progress. -/
def RankSched.sleeping (r : RankSched) : Bool :=
  r.state == .selfRefresh && r.widePlaced == none && r.wide == none

/-- In self-refresh with its exit placed (R151). -/
def RankSched.exitWaits (r : RankSched) : Bool :=
  r.state == .selfRefresh && r.widePlaced == some .exit && r.wide == none

/-- In self-refresh with its exit in progress (R142). -/
def RankSched.exitRuns (r : RankSched) : Bool :=
  r.state == .selfRefresh && r.widePlaced == none && r.wide == some .exit

/-- What a rank may be doing in a quiesce state, outside reset. -/
def RankSched.fits (q : QuiesceState) (r : RankSched) : Bool :=
  match q with
  | .init => r.starting || r.serving
  | .run => r.serving
  | .draining => r.serving
  | .entering => r.entryWaits || r.entryRuns || r.sleeping
  | .asleep => r.sleeping
  | .waking => r.exitWaits || r.exitRuns || r.serving || r.entryRuns

/-- No work is held anywhere: read tracker and write queue empty, no line step and no patrol step in flight, no line
operation at any rank. -/
def State.still (s : State) : Bool :=
  s.front.tracker.isEmpty && s.front.queue.isEmpty && !s.engine.stepInFlight && s.patrol.step.isNone
    && s.ranks.toList.all RankSched.noLineOp

/-- The quiesce controller, the ranks and QACK_N agree; in ENTERING and ASLEEP no work is held. -/
def State.QuietSound (s : State) : Prop :=
  if s.resetN then
    s.qack = false
      ∧ ((∀ k : RankNo, ((s.ranks[k]).starting || (s.ranks[k]).serving) = true)
        ∨ ∀ k : RankNo, ((s.ranks[k]).serving || (s.ranks[k]).entryRuns || (s.ranks[k]).sleeping
            || (s.ranks[k]).exitRuns) = true)
  else
    s.qack = decide (s.quiesce = .asleep)
      ∧ (∀ k : RankNo, (s.ranks[k]).fits s.quiesce = true)
      ∧ (s.quiesce = .entering ∨ s.quiesce = .asleep → s.still = true)

/-- QACK_N is asserted only at rest with every rank in self-refresh (R150). -/
def State.QuietPromise (s : State) : Prop :=
  s.qack = true →
    s.front.tracker = [] ∧ s.front.queue = [] ∧ s.engine.stepInFlight = false ∧ s.patrol.step = none
      ∧ ∀ k : RankNo, (s.ranks[k]).state = .selfRefresh

end Sys2Proof.Machine
end

