-- ==== Sys2Proof/WellFormed.lean ====
section
/-! DEFINITION. The checks on a command's operands that the operand types do not already make: each
command of the service port has one well-formed spelling, and a disturbance names real errors. -/

namespace Sys2Proof

/-- A disturbance that names symbols in error names them as R4 means it: each differs in some bit, and two are two,
the first one the lower (DESIGN CHOICE, log entry 4). -/
def StoredLine.wellFormed : StoredLine → Bool
  | .intact _ => true
  | .oneSymbol _ _ flips => flips != 0
  | .twoSymbols _ i j x y => decide (i < j) && x != 0 && y != 0
  | .bytes _ => true

/-- No disturbance, or a well-formed one. -/
def disturbWellFormed : Option StoredLine → Bool
  | none => true
  | some l => l.wellFormed

/-- Well-formed commands. RETIRE_ROW with the flag byte 1 is the row RETIRE_ROW_NO_COPY (R93, R94).
COMMAND_FRAME_INVALID carries at least one byte (R163) and fails a check (R164). -/
def Instr.wellFormed : Instr → Bool
  | .hostReadComplete _ _ d => disturbWellFormed d
  | .failoverReadComplete _ _ d => disturbWellFormed d
  | .mergeReadComplete _ _ d => disturbWellFormed d
  | .patrolReadComplete _ _ d => disturbWellFormed d
  | .moveReadComplete _ _ d => disturbWellFormed d
  | .retireRow _ _ _ flag => flag != 1
  | .commandFrameInvalid frame => !frame.isEmpty && (frameFailure frame).isSome
  | .read _ _ | .write _ _ _ | .maskedWrite _ _ _ _ | .credit | .issueRead _ | .mergeReadIssue _
  | .writeEntryIssue _ | .entryWriteComplete _ _ | .schedulerGrant _ | .repairWriteComplete _ _
  | .scrubWriteComplete _ _ | .refreshComplete _ | .refreshTimerExpiry _ | .patrolTimerExpiry
  | .jobStart | .lineStepBegin | .targetWriteComplete _ _ | .qreqAssert | .qreqDeassert
  | .drainComplete | .selfRefreshEntryComplete _ | .selfRefreshExitComplete _
  | .rankInitComplete _ | .powerOnReset _ | .warmResetAssert | .warmResetRelease
  | .getStatus _ | .getCounters _ | .clearCounters | .stageRegion _ _ _ _ _ _ _ _
  | .readRegion _ _ | .commitRegions | .readSlot _ | .retireRowNoCopy _ _ _ | .releaseSlot _
  | .readCursor _ _ | .readMirror _ | .failSide _ _ | .resyncRegion _ | .setPatrol _
  | .readTracker _ | .popEvent | .peekEvent | .setAlertMask _ | .openFront | .closeFront => true

end Sys2Proof
end

