-- ==== Sys2Proof/Certificates/Slice0/Obligations.lean ====
section
/-! DEFINITION. The statements for the provers. Each says what a command does, or what every command keeps, in the
terms of the spec's rules. Where a statement rests on a choice of the model, its docstring names the log entry. -/

open Sys2Proof Sys2Proof.Machine

/-! ### The queue of commands -/

/-- A step takes the command at the front of the queue and executes it with the rest of the queue. On an empty queue
the block idles: that clause is the model's choice (log entry 2). -/
def Obligations.StepTakesFront : Prop :=
  (∀ (c : Instr) (rest : List Instr) (s : State),
      step { s with pending := c :: rest } = exec c { s with pending := rest })
    ∧ ∀ s : State, s.pending = [] → step s = .next s

/-- Every command, in every state, is answered by a next state that leaves the waiting commands as they are: no
command of the block stops it (log entry 1). -/
def Obligations.EveryCommandAnswers : Prop :=
  ∀ (c : Instr) (s : State), ∃ t : State, exec c s = .next t ∧ t.pending = s.pending

/-! ### Service port frames (R163, R164, section 11.6) -/

/-- Every well-formed service port command is read back from the frame it is written as, and every transaction with
at least one byte spells exactly one well-formed command, whose frame it is. -/
def Obligations.FramesSpellCommands : Prop :=
  (∀ (c : Instr) (f : List Byte), c.wellFormed = true → encodeFrame c = some f → decodeFrame f = some c)
    ∧ ∀ f : List Byte, f ≠ [] → ∃ c : Instr, decodeFrame f = some c ∧ c.wellFormed = true ∧ encodeFrame c = some f

/-- R164: the checks of a write transaction's frame in their order, with the table of the twenty codes and payload
lengths of section 11.6. A failing frame replaces the response frame and changes nothing else; a frame that passes is
the command of its code and payload. -/
def Obligations.FrameChecksInOrder : Prop :=
  ∀ (f : List Byte) (s : State), f ≠ [] → s.resetN = false →
    let lengths : List (Nat × Nat) :=
      [(0x01, 1), (0x02, 1), (0x03, 0), (0x10, 10), (0x11, 2), (0x12, 0), (0x20, 1), (0x21, 5), (0x22, 1),
       (0x23, 2), (0x30, 1), (0x31, 2), (0x32, 1), (0x40, 2), (0x41, 1), (0x50, 0), (0x51, 0), (0x52, 2),
       (0x60, 0), (0x61, 0)]
    let code := (f.getD 0 0).toNat
    let length := (f.getD 1 0).toNat
    let sum := (f.map BitVec.toNat).sum % 256
    let fails (r : Byte) (check : Byte) : Prop :=
      decodeFrame f = some (.commandFrameInvalid f)
        ∧ exec (.commandFrameInvalid f) s = .next { s with port := { s.port with response := [r, 0x00, check] } }
    if f.length < 3 ∨ 32 < f.length ∨ f.length ≠ length + 3 then fails 0x02 0xFE
    else if sum ≠ 0 then fails 0x01 0xFF
    else match lengths.lookup code with
      | none => fails 0x03 0xFD
      | some n =>
        if length ≠ n then fails 0x02 0xFE
        else ∃ c : Instr, decodeFrame f = some c ∧ commandOf code ((f.drop 2).take n) = some c ∧ frameFailure f = none

/-- The service port on its bus (R162, R163, R166): which address and which bytes of a write are acknowledged; the command
taken at a STOP, which is that of the frame after the last START alone, where that START is a write to the port's own
address with neither reset asserted and no edge of RESET_N or of power-on reset follows it; and what a read transaction
returns, the response frame from its first byte and then 0xFF. The commands of the two resets leave the port as their edges
do. What the port keeps of a transaction before its STOP is the model's choice (log entry 15), and so is that RESET_N is
deasserted at the release of power-on reset (6). -/
def Obligations.BusTransactionsAreTaken : Prop :=
  ∀ (s : State) (v : BusView) (p : ServicePort) (n : Nat) (before : List BusEvent) (frame : List Byte),
    let level : BitVec 7 × Bool × Bool :=
      before.foldl (fun x e => match e with
        | .resetAsserted => (x.1, true, x.2.2)
        | .resetReleased => (x.1, false, x.2.2)
        | .powerOnAsserted => (x.1, x.2.1, true)
        | .powerOnReleased straps => (0x58 + straps.zeroExtend 7, false, false)
        | _ => x) (v.address, v.resetN, v.powerOn)
    let underReset : Prop := level.2.1 = true ∨ level.2.2 = true
    let written : List BusEvent := frame.map .byte
    let leaves (c : Instr) (edges : List BusEvent) : Prop :=
      ∃ t : State, exec c s = .next t ∧ t.busView = edges.foldl BusView.after s.busView
    s.busView = { address := s.port.address, resetN := s.resetN, powerOn := false, frame := none }
      ∧ (∀ a, s.acknowledges a = decide (s.resetN = false ∧ a = s.port.address))
      ∧ (∀ a, v.acknowledges a = decide (v.resetN = false ∧ v.powerOn = false ∧ a = v.address))
      ∧ acknowledgesByte n = decide (n < 32)
      ∧ (¬ underReset →
        v.commandAtStop (before ++ .start level.1 false :: written) = if frame = [] then none else decodeFrame frame)
      ∧ (∀ a reading, reading = true ∨ a ≠ level.1 ∨ underReset →
        v.commandAtStop (before ++ .start a reading :: written) = none)
      ∧ (∀ e, e = .resetAsserted ∨ e = .resetReleased ∨ e = .powerOnAsserted ∨ (∃ straps, e = .powerOnReleased straps) →
        v.commandAtStop (before ++ e :: written) = none)
      ∧ (v.frame = none → v.commandAtStop written = none)
      ∧ (∀ straps, leaves (.powerOnReset straps) [.powerOnAsserted, .powerOnReleased straps])
      ∧ leaves .warmResetAssert [.resetAsserted] ∧ leaves .warmResetRelease [.resetReleased]
      ∧ (p.readOut n).length = n ∧ ∀ i < n, (p.readOut n)[i]? = some (p.response.getD i 0xFF)

/-! ### Power-on reset -/

/-- R160: power-on reset empties the log, sets the next sequence number and the lost count to 0 and the mask to the
default; RESET_SEEN (COLD) is then stored with sequence number 0, and ALERT_N is deasserted. -/
def Obligations.PowerOnResetsTheLog : Prop :=
  ∀ (straps : BitVec 2) (s : State),
    ∃ t : State, exec (.powerOnReset straps) s = .next t
      ∧ t.log = { records := [{ seq := 0, event := .resetSeen false }], nextSeq := 1, lost := 0, mask := 0x0A4A,
                  alert := false }

/-- What power-on reset leaves in every block (R12, R17, R55, R75, R79, R97, R99, R100, R127, R128, R130, R137, R140,
R146, R147, R148, R162, R166, R168): an operation in progress at a rank port stays on its bank, its result to be
discarded. The model's own choices and readings are named in the log: that a rank-wide operation in progress is dropped
(19), that the waiting commands are kept (2), that the levels of QREQ_N and RESET_N are as given, the straps an operand,
and the record of messages emptied (6), and that no line is listed (5). -/
def Obligations.PowerOnResetsTheBlocks : Prop :=
  ∀ (straps : BitVec 2) (s : State),
    ∃ t : State, exec (.powerOnReset straps) s = .next t
      ∧ t.front = { admission := .opened, creditsStarted := false, readBalance := 0, writeBalance := 0,
                    readOwed := 0, writeOwed := 0, tracker := [], queue := [] }
      ∧ (∀ i : RegionIx,
          t.active[i] = { valid := false, rank := 0, first := 0, last := 0, policy := .plain, patrol := false,
                          threshold := 0 } ∧ t.staged[i] = t.active[i] ∧ t.mirrors[i] = none)
      ∧ (∀ i : SlotIx, t.slots[i] = none ∧ t.cursors[i] = 0)
      ∧ t.engine = { mode := .idle, job := none, queue := [] }
      ∧ t.patrol = { interval := 0, cursor := none, pass := 0, step := none } ∧ t.tracker = []
      ∧ (∀ k : RankNo,
          (t.ranks[k]).state = .initializing ∧ (t.ranks[k]).widePlaced = some .init ∧ (t.ranks[k]).wide = none
            ∧ (t.ranks[k]).placed = [] ∧ (t.ranks[k]).debt = 0 ∧ (t.ranks[k]).moveWait = 0
            ∧ (t.ranks[k]).timerOn = false
            ∧ ∀ b : BankNo, (t.ranks[k]).banks[b] = ((s.ranks[k]).banks[b]).map fun o => { o with abandoned := true })
      ∧ t.quiesce = .init ∧ t.qack = false ∧ t.resetN = false ∧ t.qreq = s.qreq
      ∧ t.counters =
        { outcomes := Vector.replicate 4 { corrected := 0, uncorrectable := 0, poison := 0 },
          noCredit := 0, tagInUse := 0, badMask := 0, pool := 0, shadow := 0, closedRegion := 0,
          failoverReads := 0, repairsWritten := 0, repairsSuperseded := 0, repairsDropped := 0,
          passes := 0, skippedExpiries := 0, scrubWrites := 0, scrubsSuperseded := 0,
          refreshLate := Vector.replicate 4 0 }
      ∧ t.port = { address := 0x58 + straps.zeroExtend 7, response := [0x08, 0x00, 0xF8] }
      ∧ t.store = [] ∧ t.sent = [] ∧ t.pending = s.pending

/-- Every invariant of this file holds of the machine right after reset. -/
def Obligations.ResetMeetsTheInvariants : Prop :=
  State.reset.StoreSound ∧ State.reset.log.Sound ∧ State.reset.front.Sound ∧ State.reset.RanksSound
    ∧ State.reset.TrackerSound ∧ State.reset.RegionsSound ∧ State.reset.HomesApart
    ∧ State.reset.SparesSound ∧ State.reset.JobsSound ∧ State.reset.QuietSound

/-! ### Lines (chapter 1) -/

/-- R1: the decomposition of a line address by its divisions, into a row that exists, and its inverse: it is
one-to-one. R2, R102: the positions of a run of stripes number its lines in line address order, each with its line
address, and the position of a line in the run is found again. -/
def Obligations.LineAddressesDecompose : Prop :=
  (∀ la : LineAddr,
      (colOf la).val = la.val % 128 ∧ (homeRow la).bank.val = la.val / 128 % 16
        ∧ (homeRow la).row.val = la.val / 2048 % 65536 ∧ (homeRow la).rank.val = la.val / 134217728
        ∧ homeLoc la = { rank := (homeRow la).rank, bank := (homeRow la).bank, row := (homeRow la).row,
                         col := colOf la }
        ∧ (homeLoc la).lineAddr = la)
    ∧ (∀ l : Loc,
        homeLoc l.lineAddr = l
          ∧ l.lineAddr.val = l.rank.val * 134217728 + l.row.val * 2048 + l.bank.val * 128 + l.col.val)
    ∧ ∀ e : RegionEntry, e.rank.toNat ≤ 3 → e.first.toNat ≤ e.last.toNat →
        e.positions = (e.last.toNat - e.first.toNat + 1) * 2048
          ∧ (∀ q < e.positions,
            (e.lineAt q).val = e.rank.toNat * 134217728 + e.first.toNat * 2048 + q
              ∧ (homeRow (e.lineAt q)).rank.val = e.rank.toNat
              ∧ (homeRow (e.lineAt q)).row.val = e.first.toNat + q / 2048
              ∧ (homeRow (e.lineAt q)).bank.val = q / 128 % 16 ∧ (colOf (e.lineAt q)).val = q % 128
              ∧ e.positionOf (e.lineAt q) = q)
          ∧ ∀ la : LineAddr, (homeRow la).rank.val = e.rank.toNat → e.first.toNat ≤ (homeRow la).row.val →
            (homeRow la).row.val ≤ e.last.toNat →
            e.positionOf la < e.positions ∧ e.lineAt (e.positionOf la) = la

/-- A rank read that completes is classified by the line the rank holds there (R4, R5, R6), leaves every stored line as
it was (R7), and is counted on its rank, CLEAN apart, each counter saturating (R10). The line held is the one a
disturbance has left, where the command names one (log entry 4). A line known as it was written, or by one or two symbols
in error, is what R4 says of it; any other 72 bytes go through the four steps of R6, and step 1 comes first for all (log
entry 3). The data of a line are its data symbols, the encoder never gives the poison pattern, and a line as it was
written is so classified from its bytes too. That the first byte of a symbol is its highest, and symbol 0 the highest of 72
raw bytes, is the model's choice (log entry 25): R4 gives no order within a symbol. -/
def Obligations.RankReadsAreClassified : Prop :=
  (∀ (d : LineData) (i : Fin 16) (b : Fin 4),
      (formSymbol (.data d) (i.castLE (by omega))).extractLsb' (8 * (3 - b.val)) 8 = d[4 * i.val + b.val]
        ∧ formSymbol .poison (i.castLE (by omega)) = 0)
    ∧ (∀ d : LineData, ¬ (formSymbol (.data d) 16 = formSymbol .poison 16 ∧ formSymbol (.data d) 17 = formSymbol .poison 17))
    ∧ ∀ (s : State) (l : Loc) (d : Option StoredLine), s.StoreSound →
      let held := d.getD (s.lineAt l)
      let r := s.sense l d
      let x := lineSymbol held
      let near (f : LineForm) : Prop := ∃ j, ∀ i, i ≠ j → x i = formSymbol f i
      let zero (o : ReadOutcome) : Reading := { outcome := o, data := Vector.replicate 64 0 }
      let steps : Prop :=
        (near .poison → r.2 = zero .poison)
          ∧ (¬ near .poison → ∀ d, x = formSymbol (.data d) → r.2 = { outcome := .clean, data := d })
          ∧ (¬ near .poison → (∀ d, x ≠ formSymbol (.data d)) →
            ((∃ d, near (.data d)) → ∃ d, near (.data d) ∧ r.2 = { outcome := .corrected, data := d })
              ∧ ((∀ d, ¬ near (.data d)) → r.2 = zero .uncorrectable))
      let c := s.counters.outcomes[l.rank]
      let counted : OutcomeCounters :=
        { corrected := if r.2.outcome = .corrected then countUp c.corrected else c.corrected
          uncorrectable := if r.2.outcome = .uncorrectable then countUp c.uncorrectable else c.uncorrectable
          poison := if r.2.outcome = .poison then countUp c.poison else c.poison }
      (match held with
        | .intact .poison => x = formSymbol .poison ∧ steps
        | .intact (.data d) => x = formSymbol (.data d) ∧ r.2 = { outcome := .clean, data := d } ∧ steps
        | .oneSymbol .poison i flips =>
          x = (fun n => if n = i then formSymbol .poison n ^^^ flips else formSymbol .poison n) ∧ steps
        | .oneSymbol (.data d) i flips =>
          x = (fun n => if n = i then formSymbol (.data d) n ^^^ flips else formSymbol (.data d) n)
            ∧ (flips = 0 → r.2 = { outcome := .clean, data := d })
            ∧ (flips ≠ 0 → (near .poison → r.2 = zero .poison)
              ∧ (¬ near .poison → r.2 = { outcome := .corrected, data := d }))
        | .twoSymbols d i j y z =>
          x = (fun n => formSymbol (.data d) n ^^^ (if n = i then y else 0) ^^^ (if n = j then z else 0))
            ∧ (i = j ∨ y = 0 ∨ z = 0 → steps)
            ∧ (i ≠ j → y ≠ 0 → z ≠ 0 →
              (near .poison → r.2 = zero .poison) ∧ (¬ near .poison → r.2 = zero .uncorrectable))
        | .bytes raw => (∀ i, x i = raw.extractLsb' (32 * (17 - i.val)) 32) ∧ steps)
        ∧ r.1.lineAt l = held ∧ (∀ m : Loc, m ≠ l → r.1.lineAt m = s.lineAt m)
        ∧ r.1 = { s with
            store := r.1.store
            counters := { s.counters with outcomes := s.counters.outcomes.set l.rank counted } }

/-- Every step keeps the stored lines in their canonical form (log entry 5), and in that form a rank write replaces the
stored line at its location whole, with the form written, and leaves every other line (R4, R5). -/
def Obligations.StoreKeepsItsForm : Prop :=
  (∀ s t : State, s.StoreSound → step s = .next t → t.StoreSound)
    ∧ ∀ (s : State) (l : Loc) (f : LineForm), s.StoreSound →
      (s.storeForm l f).lineAt l = .intact f ∧ ∀ m : Loc, m ≠ l → (s.storeForm l f).lineAt m = s.lineAt m

/-! ### The front link (chapter 3) -/

/-- A READ that passes the six checks takes a read credit and is entered WAITING where the queue has no entry for its
line, is HELD_FOR_MERGE where the newest such entry is MERGING, and is answered from that entry otherwise, its credit
owed (R36, R39, R40, R43, R45). Nothing else changes. -/
def Obligations.ReadIsAccepted : Prop :=
  ∀ (tag : Tag) (la : LineAddr) (s : State),
    s.resetN = false → s.front.admission = .opened → s.quiesce = .run → s.front.readBalance ≠ 0 →
    tag ∉ s.front.tagsHeld → (decodeRow s.active (homeRow la)).accepts = true →
    ((∀ e ∈ s.front.queue, e.la ≠ la) →
        exec (.read tag la) s = .next { s with front := { s.front with
          readBalance := s.front.readBalance - 1
          tracker := s.front.tracker ++ [{ tag := tag, la := la, state := .waiting }] } })
      ∧ ∀ (older newer : List QueueEntry) (e : QueueEntry), newestFor s.front.queue older newer la e →
        match e.state with
        | .merging t _ _ _ =>
          exec (.read tag la) s = .next { s with front := { s.front with
            readBalance := s.front.readBalance - 1
            tracker := s.front.tracker ++ [{ tag := tag, la := la, state := .heldForMerge t }] } }
        | .queued f | .held f | .issued f _ =>
          exec (.read tag la) s = .next { s with
            front := { s.front with
              readBalance := s.front.readBalance - 1
              readOwed := s.front.readOwed + 1 }
            sent := s.sent ++ [match f with
              | .data d => .readData tag d .ok
              | .poison => .readData tag (Vector.replicate 64 0) .poisoned] }

/-- A request that fails one of the six checks is answered with a REFUSAL carrying the reason of the first that fails;
it is counted, on the counter of its reason, and logged but for CLOSED and QUIESCING, and leaves nothing else behind
(R39, R41, R54). -/
def Obligations.RequestIsRefused : Prop :=
  ∀ (c : Instr) (tag : Tag) (la : LineAddr) (balance : Nat) (noByte : Bool) (why : FrontReason) (s : State),
    (c = .read tag la ∧ balance = s.front.readBalance ∧ noByte = false)
      ∨ (∃ d, c = .write tag la d ∧ balance = s.front.writeBalance ∧ noByte = false)
      ∨ (∃ m d, c = .maskedWrite tag la m d ∧ balance = s.front.writeBalance ∧ noByte = decide (m = 0)) →
    s.resetN = false →
    (if s.front.admission = .closed then some .closed
      else if s.quiesce ≠ .run then some .quiescing
      else if balance = 0 then some .noCredit
      else if tag ∈ s.front.tagsHeld then some .tagInUse
      else if noByte = true then some .badMask
      else match decodeRow s.active (homeRow la) with
        | .region _ .pool _ => some .pool
        | .shadow _ => some .shadow
        | .region _ .closed _ => some .closedRegion
        | _ => none) = some why →
    if why = .closed ∨ why = .quiescing then
      exec c s = .next { s with sent := s.sent ++ [.refusal tag why] }
    else
      exec c s = .next { s with
        sent := s.sent ++ [.refusal tag why]
        counters := match why with
          | .noCredit => { s.counters with noCredit := countUp s.counters.noCredit }
          | .tagInUse => { s.counters with tagInUse := countUp s.counters.tagInUse }
          | .badMask => { s.counters with badMask := countUp s.counters.badMask }
          | .pool => { s.counters with pool := countUp s.counters.pool }
          | .shadow => { s.counters with shadow := countUp s.counters.shadow }
          | .closedRegion => { s.counters with closedRegion := countUp s.counters.closedRegion }
          | .closed | .quiescing => s.counters
        log := s.log.offer (.requestRefused tag why (homeLoc la)) }

/-- A WRITE that passes the checks, or a MASKED WRITE with every byte enabled, is acknowledged DONE at once, takes a
write credit and gives its supersede notice. It coalesces into the newest entry for its line where that is QUEUED, its
credit then owed, and otherwise takes a new QUEUED entry at the tail (R32, R36, R40, R47). -/
def Obligations.WriteIsAccepted : Prop :=
  ∀ (c : Instr) (tag : Tag) (la : LineAddr) (d : LineData) (s : State),
    c = .write tag la d ∨ c = .maskedWrite tag la (BitVec.allOnes 64) d →
    s.resetN = false → s.front.admission = .opened → s.quiesce = .run → s.front.writeBalance ≠ 0 →
    tag ∉ s.front.tagsHeld → (decodeRow s.active (homeRow la)).accepts = true →
    (∀ (older newer : List QueueEntry) (e : QueueEntry) (f : LineForm),
        newestFor s.front.queue older newer la e → e.state = .queued f →
        exec c s = .next { s.supersede la with
          sent := s.sent ++ [.writeAck tag .done]
          front := { s.front with
            writeBalance := s.front.writeBalance - 1
            writeOwed := s.front.writeOwed + 1
            queue := older ++ { la := la, state := .queued (.data d) } :: newer } })
      ∧ ((∀ (older newer : List QueueEntry) (e : QueueEntry) (f : LineForm),
          newestFor s.front.queue older newer la e → e.state ≠ .queued f) →
        exec c s = .next { s.supersede la with
          sent := s.sent ++ [.writeAck tag .done]
          front := { s.front with
            writeBalance := s.front.writeBalance - 1
            queue := s.front.queue ++ [{ la := la, state := .queued (.data d) }] } })

/-- A MASKED WRITE with some bytes enabled that passes the checks takes a write credit and gives its supersede notice.
It coalesces into a QUEUED newest entry (R48), merges at once from a HELD or ISSUED one (R49 case 1), and otherwise
takes a new MERGING entry that holds its tag (R49 cases 2 and 3). The enabled bytes are laid over data; poison stays
poison and is acknowledged MERGED_POISON. -/
def Obligations.MaskedWriteIsAccepted : Prop :=
  ∀ (tag : Tag) (la : LineAddr) (m : BitVec 64) (d : LineData) (s : State),
    m ≠ 0 → m ≠ BitVec.allOnes 64 →
    s.resetN = false → s.front.admission = .opened → s.quiesce = .run → s.front.writeBalance ≠ 0 →
    tag ∉ s.front.tagsHeld → (decodeRow s.active (homeRow la)).accepts = true →
    let fresh : QueueEntry := { la := la, state := .merging tag m d false }
    let merged (f : LineForm) : LineForm :=
      match f with
      | .data old => .data (Vector.ofFn fun i : Fin 64 => if m.getLsbD i.val then d[i] else old[i])
      | .poison => .poison
    let ack (f : LineForm) : HostMsg := .writeAck tag (if f = .poison then .mergedPoison else .done)
    ((∀ e ∈ s.front.queue, e.la ≠ la) →
        exec (.maskedWrite tag la m d) s = .next { s.supersede la with front := { s.front with
          writeBalance := s.front.writeBalance - 1
          queue := s.front.queue ++ [fresh] } })
      ∧ ∀ (older newer : List QueueEntry) (e : QueueEntry), newestFor s.front.queue older newer la e →
        match e.state with
        | .merging _ _ _ _ =>
          exec (.maskedWrite tag la m d) s = .next { s.supersede la with front := { s.front with
            writeBalance := s.front.writeBalance - 1
            queue := s.front.queue ++ [fresh] } }
        | .queued f =>
          exec (.maskedWrite tag la m d) s = .next { s.supersede la with
            sent := s.sent ++ [ack f]
            front := { s.front with
              writeBalance := s.front.writeBalance - 1
              writeOwed := s.front.writeOwed + 1
              queue := older ++ { la := la, state := .queued (merged f) } :: newer } }
        | .held f | .issued f _ =>
          exec (.maskedWrite tag la m d) s = .next { s.supersede la with
            sent := s.sent ++ [ack f]
            front := { s.front with
              writeBalance := s.front.writeBalance - 1
              queue := s.front.queue ++ [{ la := la, state := .queued (merged f) }] } }

/-- Work is issued where the router chooses at that moment (R44, R49, R51, R52, R56, R58, R61). A WAITING read becomes
ISSUED, and the first MERGING entry for its line, its merge read not yet issued, records that it is; either is placed as
one read. A ready entry, the oldest for its line, QUEUED, with no READ of the line WAITING or ISSUED, is passed to the
router: ISSUED with a rank write at each location of its route, HELD with the line step, or STALE and gone. -/
def Obligations.WorkIsIssued : Prop :=
  ∀ (tag : Tag) (la : LineAddr) (s : State), s.resetN = false →
    let l := (s.readRoute la).2
    (∀ before after : List TrackedRead,
        trackedAs s.front.tracker before after { tag := tag, la := la, state := .waiting } →
        exec (.issueRead tag) s = .next { s with
          ranks := s.ranksWith (placedOp (.hostRead tag (s.readRoute la).1) la l)
          front := { s.front with
            tracker := before ++ { tag := tag, la := la, state := .issued } :: after } })
      ∧ (∀ (older newer : List QueueEntry) (m : BitVec 64) (d : LineData),
        oldestFor s.front.queue older newer la { la := la, state := .merging tag m d false } →
        (∀ e ∈ older, e.tag ≠ some tag) →
        exec (.mergeReadIssue tag) s = .next { s with
          ranks := s.ranksWith (placedOp (.mergeRead tag (s.readRoute la).1) la l)
          front := { s.front with
            queue := older ++ { la := la, state := .merging tag m d true } :: newer } })
      ∧ ∀ (f : LineForm) (older newer : List QueueEntry),
        oldestFor s.front.queue older newer la { la := la, state := .queued f } →
        (∀ t ∈ s.front.tracker, t.la = la → t.state ≠ .waiting ∧ t.state ≠ .issued) →
        exec (.writeEntryIssue la) s = .next (s.passedOn la f older newer)

/-- The CREDIT: while admission is OPEN and credits have started, with a credit owed, it carries both owed counts
whole with the initial flag off, adds them to the balances and clears them (R37). CLOSE_FRONT and OPEN_FRONT in their
cases (R34, R35, R38). -/
def Obligations.CreditsAndAdmission : Prop :=
  ∀ s : State, s.resetN = false →
    let already : List Byte := [0x06, 0x02, 0x07, 0xFF, 0xF2]
    let done : List Byte := [0x00, 0x00, 0x00]
    let busy : List Byte := [0x05, 0x00, 0xFB]
    let answer (r : List Byte) : ServicePort := { s.port with response := r }
    (s.front.admission = .opened → s.front.creditsStarted = true → 0 < s.front.readOwed + s.front.writeOwed →
        exec .credit s = .next { s with
          sent := s.sent ++ [.credit s.front.readOwed s.front.writeOwed false]
          front := { s.front with
            readBalance := s.front.readBalance + s.front.readOwed
            writeBalance := s.front.writeBalance + s.front.writeOwed
            readOwed := 0
            writeOwed := 0 } })
      ∧ (s.front.admission = .closed → exec .closeFront s = .next { s with port := answer already })
      ∧ (s.front.admission = .opened →
        exec .closeFront s = .next { s with
          port := answer done
          front := { s.front with
            admission := .closed
            readBalance := 0
            writeBalance := 0
            readOwed := 0
            writeOwed := 0 } })
      ∧ (s.front.admission = .opened → exec .openFront s = .next { s with port := answer already })
      ∧ (s.front.admission = .closed →
        if s.front.tracker ≠ [] ∨ s.front.queue ≠ [] then exec .openFront s = .next { s with port := answer busy }
        else if s.front.creditsStarted = true then
          exec .openFront s = .next { s with
            port := answer done
            sent := s.sent ++ [.credit 32 24 true]
            front := { s.front with admission := .opened, readBalance := 32, writeBalance := 24 } }
        else exec .openFront s = .next { s with
          port := answer done
          front := { s.front with admission := .opened } })

/-- Every step keeps the credit sums, the bounds of the read tracker and the write queue, and the tags distinct
(R36, R42, R43, R46). -/
def Obligations.FrontLinkStaysSound : Prop :=
  ∀ s t : State, s.front.Sound → step s = .next t → t.front.Sound

/-! ### Request routing (chapter 4) -/

/-- R18: the decode of a stripe against a table, and of a line address or physical row, which is that of the stripe of its
(home) row. Where some valid entry of the rank covers it, the lowest such entry's policy, index and patrol flag; else,
on an odd rank, SHADOW where a valid MIRRORED entry of the rank below covers it; else undecoded. In a table within the
checks of a commit one entry at most satisfies either step. -/
def Obligations.StripesDecode : Prop :=
  ∀ (t : RegionTable) (k : RankNo) (n : RowNo),
    let covers (i : RegionIx) : Prop :=
      (t[i]).valid = true ∧ (t[i]).rank.toNat = k.val ∧ (t[i]).first.toNat ≤ n.val ∧ n.val ≤ (t[i]).last.toNat
    let shadows (i : RegionIx) : Prop :=
      k.val % 2 = 1 ∧ (t[i]).valid = true ∧ (t[i]).policy = .mirrored ∧ (t[i]).rank.toNat + 1 = k.val
        ∧ (t[i]).first.toNat ≤ n.val ∧ n.val ≤ (t[i]).last.toNat
    let lowest (P : RegionIx → Prop) (i : RegionIx) : Prop := P i ∧ ∀ j, j < i → ¬ P j
    (∀ i, lowest covers i → decodeStripe t k n = .region i (t[i]).policy (t[i]).patrol)
      ∧ ((∀ i, ¬ covers i) → (∀ i, lowest shadows i → decodeStripe t k n = .shadow i)
        ∧ ((∀ i, ¬ shadows i) → decodeStripe t k n = .undecoded))
      ∧ (tableSound t → ∀ i j, (covers i → covers j → i = j) ∧ (shadows i → shadows j → i = j)
        ∧ ¬ (covers i ∧ shadows j))
      ∧ ∀ b : BankNo, decodeRow t { rank := k, bank := b, row := n } = decodeStripe t k n

/-- Where a host read or merge read of a line goes at this moment: by the decode of its home row, the entry for it in
the substitution table, and the mirror state of its region (R57, R58, R59, R60, R64). -/
def Obligations.ReadsGoWhereTheDataIs : Prop :=
  ∀ (la : LineAddr) (s : State), s.HomesApart →
    match decodeRow s.active (homeRow la) with
    | .undecoded | .region _ .plain _ => s.readRoute la = (.plain, homeLoc la)
    | .shadow _ | .region _ .pool _ | .region _ .closed _ => s.readRoute la = (.stale, homeLoc la)
    | .region i .spared _ =>
      ((∀ n : SlotIx, ∀ e ∈ s.slots[n], e.home ≠ homeRow la) → s.readRoute la = (.spared i, homeLoc la))
        ∧ ∀ n : SlotIx, ∀ e ∈ s.slots[n], e.home = homeRow la →
          s.readRoute la = (.spared i, { homeLoc la with row := e.current })
    | .region i .mirrored _ =>
      ∀ m ∈ s.mirrors[i],
        if m.state = .simplexShadow ∨ m.state = .rebuildPrimary then
          s.readRoute la = (.mirrored i .shadow false m.born, { homeLoc la with rank := (homeLoc la).rank + 1 })
        else s.readRoute la = (.mirrored i .primary (decide (m.state = .duplex)) m.born, homeLoc la)

/-- Where a write of a line goes at this moment (R57, R58, R59, R64), with the copy window of a row being moved or a
side being rebuilt: both locations below the pointer, the source alone above it or at it with no step in flight, and
held at it with a step in flight (R60, R61). A write is of the routing class that the decode gives, for a MIRRORED line with
the region index and the side of its location (R56, R57). That below the pointer the source's write comes before the
target's is the model's choice (log entry 26): R61 gives the two locations and no order. -/
def Obligations.WritesGoWhereTheDataIs : Prop :=
  ∀ (la : LineAddr) (p : Nat) (stepping : Bool) (s : State), s.HomesApart →
    let home := homeLoc la
    let shadow : Loc := { home with rank := home.rank + 1 }
    let window (position : Nat) (source target : Loc) : WriteRoute :=
      if position < p then .places [source, target]
      else if p < position then .places [source]
      else if stepping = true then .hold
      else .places [source]
    let classed (cls : WriteClass) : Prop := ∀ l : Loc, writeClass s.active la l = cls
    match decodeRow s.active (homeRow la) with
    | .undecoded | .region _ .plain _ => s.writeRoute la = .places [home] ∧ classed .plain
    | .shadow _ | .region _ .pool _ | .region _ .closed _ => s.writeRoute la = .stale ∧ classed .stale
    | .region _ .spared _ =>
      classed .spared
        ∧ ((∀ n : SlotIx, ∀ e ∈ s.slots[n], e.home ≠ homeRow la) → s.writeRoute la = .places [home])
        ∧ ∀ n : SlotIx, ∀ e ∈ s.slots[n], e.home = homeRow la →
          match e.phase with
          | .pending _ | .active => s.writeRoute la = .places [{ home with row := e.current }]
          | .copying next =>
            s.windowIs (.rowMove n) p stepping →
            s.writeRoute la = window home.col.val { home with row := e.current } { home with row := next }
    | .region i .mirrored _ =>
      let position := ((home.row.val - (s.active[i]).first.toNat) * 16 + home.bank.val) * 128 + home.col.val
      writeClass s.active la home = .mirrored i .primary ∧ writeClass s.active la shadow = .mirrored i .shadow
        ∧ ∀ m ∈ s.mirrors[i],
          match m.state with
          | .duplex => s.writeRoute la = .places [home, shadow]
          | .simplexPrimary => s.writeRoute la = .places [home]
          | .simplexShadow => s.writeRoute la = .places [shadow]
          | .rebuildShadow => s.windowIs (.resync i) p stepping → s.writeRoute la = window position home shadow
          | .rebuildPrimary => s.windowIs (.resync i) p stepping → s.writeRoute la = window position shadow home

/-- The notices of R68. The supersede notice marks every failover and patrol read of the line, waiting or in progress,
and every restorative write of it that waits. The placement notice of a rank write at a location marks the reads placed
there or able to supply a write there, and the restorative writes held for it; the write is then placed, youngest, with its
routing class (R56). Nothing else changes. That the notices also reach what a patrol step of the line keeps, its first read of a pair and its
scrub write that waits, is the model's reading (log entry 7). -/
def Obligations.NoticesMarkRestorativeWork : Prop :=
  ∀ (la : LineAddr) (f : LineForm) (l : Loc) (s : State),
    let supplies (o : LineOp) : Bool :=
      match o.kind with
      | .failoverRead _ _ _ _ | .patrolRead _ => true
      | _ => false
    let restores (o : LineOp) : Bool :=
      match o.kind with
      | .repairWrite _ _ _ _ _ | .scrubWrite _ _ => true
      | _ => false
    let meant (o : LineOp) : Bool :=
      decide (o.loc = l) ||
        match o.kind with
        | .failoverRead _ _ _ _ | .patrolRead .shadow => decide (sideLoc .primary la = l)
        | .patrolRead .primary => decide (sideLoc .shadow la = l)
        | _ => false
    let all (o : LineOp) : LineOp :=
      if o.la = la ∧ (supplies o || restores o) = true then { o with superseded := true } else o
    let reads (o : LineOp) : LineOp :=
      if o.la = la ∧ supplies o = true then { o with superseded := true } else o
    let allAt (o : LineOp) : LineOp :=
      if o.la = la ∧ (supplies o || restores o) = true ∧ meant o = true then { o with superseded := true } else o
    let readsAt (o : LineOp) : LineOp :=
      if o.la = la ∧ supplies o = true ∧ meant o = true then { o with superseded := true } else o
    let kept (p : PatrolStep) : PatrolStep :=
      if p.la = la then
        { p with
          first := p.first.map fun x => { x with superseded := true }
          waiting := p.waiting.map fun w => { w with superseded := true } }
      else p
    let keptAt (p : PatrolStep) : PatrolStep :=
      if p.la = la then
        { p with
          first := p.first.map fun x =>
            { x with superseded := x.superseded || decide (sideLoc .primary la = l) || decide (sideLoc .shadow la = l) }
          waiting := p.waiting.map fun w => { w with superseded := w.superseded || decide (w.loc = l) } }
      else p
    let t := s.supersede la
    let u := State.placeEntryWrite la f s l
    t = { s with ranks := t.ranks, patrol := { s.patrol with step := s.patrol.step.map kept } }
      ∧ u = { s with ranks := u.ranks, patrol := { s.patrol with step := s.patrol.step.map keptAt } }
      ∧ ∀ k : RankNo,
        t.ranks[k] = { s.ranks[k] with placed := (s.ranks[k]).placed.map all, banks := (t.ranks[k]).banks }
          ∧ (∀ b : BankNo, (t.ranks[k]).banks[b] = ((s.ranks[k]).banks[b]).map reads)
          ∧ u.ranks[k] = { s.ranks[k] with
            placed := (s.ranks[k]).placed.map allAt
              ++ (if k = l.rank then [placedOp (.entryWrite f (writeClass s.active la l)) la l] else [])
            banks := (u.ranks[k]).banks }
          ∧ ∀ b : BankNo, (u.ranks[k]).banks[b] = ((s.ranks[k]).banks[b]).map readsAt

/-- A host read that completes and is not failed over is reported by its outcome and class (R72, R73) and answered:
READ DATA with the host outcome of R8, the read out of the tracker, its credit owed (R44, R65, R66, R71). That
UNCORRECTABLE is offered before the event of what it leads to, where one step offers both, is the model's choice (log
entry 10). -/
def Obligations.HostReadIsAnswered : Prop :=
  ∀ (k : RankNo) (b : BankNo) (d : Option StoredLine) (tag : Tag) (cls : RouteClass) (la x : LineAddr) (l : Loc)
    (mark : Bool) (before after : List TrackedRead) (s : State),
    s.carries k b { kind := .hostRead tag cls, la := la, loc := l, superseded := mark } →
    trackedAs s.front.tracker before after { tag := tag, la := x, state := .issued } →
    let r := (s.freeBank k b).sense l d
    let e := r.1.offer (.uncorrectable .hostRead l)
    let u : State :=
      match r.2.outcome, cls with
      | .corrected, .spared i => r.1.correctedReport l.physRow i
      | .uncorrectable, .spared _ => e.retireInternal .uncorrectable l.physRow
      | .uncorrectable, .mirrored i side _ born => e.sideReport i side born
      | .uncorrectable, _ => e
      | _, _ => r.1
    (∀ i born, cls = .mirrored i .primary true born → r.2.outcome = .uncorrectable →
      ∀ m ∈ u.mirrors[i], m.state = .simplexPrimary ∨ m.state = .rebuildShadow) →
    exec (.hostReadComplete k b d) s = .next (match r.2.outcome with
      | .clean => u.withReadAnswer before after tag r.2.data .ok
      | .corrected => u.withReadAnswer before after tag r.2.data .corrected
      | .uncorrectable | .poison => u.withReadAnswer before after tag (Vector.replicate 64 0) .poisoned)

/-- A merge read that completes and is not failed over is reported as a host read is, under source MERGE_READ, and
completes the merge of its entry (R9, R50). A MERGING entry of the line behind it merges from it in its turn, and is
answered after it (R49 case 2). The queue is the one the reports leave. The order of the messages of one step, each WRITE
ACK before the READ DATA of the reads held on its entry, and of its events is the model's choice (log entry 10). -/
def Obligations.MergeReadIsAnswered : Prop :=
  ∀ (k : RankNo) (b : BankNo) (d : Option StoredLine) (tag : Tag) (cls : RouteClass) (la : LineAddr) (l : Loc)
    (mark : Bool) (m : BitVec 64) (data : LineData) (older newer : List QueueEntry) (s : State),
    s.carries k b { kind := .mergeRead tag cls, la := la, loc := l, superseded := mark } →
    let r := (s.freeBank k b).sense l d
    let u := r.1.reportRead true cls l r.2.outcome
    let f := mergedFrom r.2 m data
    (∀ i born, cls = .mirrored i .primary true born → r.2.outcome = .uncorrectable →
      ∀ m ∈ u.mirrors[i], m.state = .simplexPrimary ∨ m.state = .rebuildShadow) →
    oldestFor u.front.queue older newer la { la := la, state := .merging tag m data true } →
    (∀ e ∈ older, e.tag ≠ some tag) →
    ((∀ e ∈ newer, e.la = la → e.tag = none) →
        exec (.mergeReadComplete k b d) s = .next (u.withMerge older newer la tag f))
      ∧ ∀ (between rest : List QueueEntry) (tag' : Tag) (m' : BitVec 64) (data' : LineData) (issued : Bool),
        newer = between ++ { la := la, state := .merging tag' m' data' issued } :: rest →
        (∀ e ∈ between, e.la ≠ la) → (∀ e ∈ rest, e.la = la → e.tag = none) → tag' ≠ tag →
        let f' : LineForm :=
          match f with
          | .data old => .data (Vector.ofFn fun i : Fin 64 => if m'.getLsbD i.val then data'[i] else old[i])
          | .poison => .poison
        exec (.mergeReadComplete k b d) s = .next ((u.withMerge older newer la tag f).withMerge
          (older ++ { la := la, state := .queued f } :: between) rest la tag' f')

/-- A host read or merge read placed on the primary of a DUPLEX region that completes UNCORRECTABLE is reported first;
with the shadow serving in the state after its report, a failover read is placed on the shadow side and counted, and
nothing is answered yet (R65, R74). That UNCORRECTABLE is offered before MIRROR_SIDE_FAILED is the model's choice (log
entry 10). -/
def Obligations.FailoverReadIsPlaced : Prop :=
  ∀ (k : RankNo) (b : BankNo) (d : Option StoredLine) (tag : Tag) (merge : Bool) (i : RegionIx) (born : Nat)
    (la : LineAddr) (l : Loc) (mark : Bool) (m : MirrorRecord) (s : State),
    let cls : RouteClass := .mirrored i .primary true born
    s.carries k b { kind := if merge then .mergeRead tag cls else .hostRead tag cls, la := la, loc := l,
                    superseded := mark } →
    let r := (s.freeBank k b).sense l d
    let u := (r.1.offer (.uncorrectable (if merge then .mergeRead else .hostRead) l)).sideReport i .primary born
    let shadow : Loc := { homeLoc la with rank := (homeLoc la).rank + 1 }
    r.2.outcome = .uncorrectable → u.mirrors[i] = some m →
    m.state = .duplex ∨ m.state = .simplexShadow ∨ m.state = .rebuildPrimary →
    exec (if merge then .mergeReadComplete k b d else .hostReadComplete k b d) s = .next { u with
      ranks := u.ranksWith (placedOp (.failoverRead tag merge i m.born) la shadow)
      counters := { u.counters with failoverReads := countUp u.counters.failoverReads } }

/-- A failover read that completes answers its request by its own outcome. CLEAN and CORRECTED form a repair write of
the primary, with the mark of the read, placed while fewer than 15 repair writes wait on that rank and else dropped and
counted; UNCORRECTABLE is logged and counted against the shadow; POISON does no more (R65, R67, R73, R74). A MERGING
entry behind the one answered merges from it in its turn (R49 case 2). The order of the messages and of the events of
one step is the model's choice (log entry 10), and that the repair's routing class is the routing view's at its forming is
the model's reading (29). -/
def Obligations.FailoverReadAnswers : Prop :=
  ∀ (k : RankNo) (b : BankNo) (d : Option StoredLine) (tag : Tag) (merge : Bool) (i : RegionIx) (born : Nat)
    (la : LineAddr) (l : Loc) (mark : Bool) (s : State),
    s.carries k b { kind := .failoverRead tag merge i born, la := la, loc := l, superseded := mark } →
    let r := (s.freeBank k b).sense l d
    let repair : LineOp :=
      { placedOp (.repairWrite r.2.data i .primary false (writeClass s.active la (homeLoc la))) la (homeLoc la) with
        superseded := mark }
    let repaired : State :=
      if (r.1.ranks[(homeLoc la).rank]).repairs < 15 then
        { r.1 with ranks := r.1.ranksWith repair }
      else { r.1 with counters := { r.1.counters with repairsDropped := countUp r.1.counters.repairsDropped } }
    let u : State :=
      match r.2.outcome with
      | .clean | .corrected => repaired
      | .uncorrectable =>
        (r.1.offer (.uncorrectable (if merge then .mergeRead else .hostRead) l)).sideReport i .shadow born
      | .poison => r.1
    (merge = false → ∀ (x : LineAddr) (before after : List TrackedRead),
        trackedAs s.front.tracker before after { tag := tag, la := x, state := .issued } →
        exec (.failoverReadComplete k b d) s = .next (match r.2.outcome with
          | .clean => u.withReadAnswer before after tag r.2.data .ok
          | .corrected => u.withReadAnswer before after tag r.2.data .corrected
          | .uncorrectable | .poison => u.withReadAnswer before after tag (Vector.replicate 64 0) .poisoned))
      ∧ (merge = true → ∀ (m : BitVec 64) (data : LineData) (older newer : List QueueEntry),
        oldestFor s.front.queue older newer la { la := la, state := .merging tag m data true } →
        (∀ e ∈ older, e.tag ≠ some tag) →
        let form := mergedFrom r.2 m data
        ((∀ e ∈ newer, e.la = la → e.tag = none) →
            exec (.failoverReadComplete k b d) s = .next (u.withMerge older newer la tag form))
          ∧ ∀ (between rest : List QueueEntry) (tag' : Tag) (m' : BitVec 64) (data' : LineData) (issued : Bool),
            newer = between ++ { la := la, state := .merging tag' m' data' issued } :: rest →
            (∀ e ∈ between, e.la ≠ la) → (∀ e ∈ rest, e.la = la → e.tag = none) → tag' ≠ tag →
            let form' : LineForm :=
              match form with
              | .data old => .data (Vector.ofFn fun i : Fin 64 => if m'.getLsbD i.val then data'[i] else old[i])
              | .poison => .poison
            exec (.failoverReadComplete k b d) s = .next ((u.withMerge older newer la tag form).withMerge
              (older ++ { la := la, state := .queued form } :: between) rest la tag' form'))

/-- A write that completes at its rank port is stored whole. The rank write of an ISSUED entry: the entry stays until the
last of its writes has completed, and then leaves the queue with its write credit owed (R36, R52). A repair write is
counted as written and logged with the line's own address (R70, R125); a scrub write is counted (R136); one of the patrol
step ends its part of the step (R133). -/
def Obligations.WritesAreStored : Prop :=
  ∀ (k : RankNo) (b : BankNo) (la : LineAddr) (l : Loc) (mark : Bool) (s : State),
    let w (f : LineForm) : State := (s.freeBank k b).storeForm l f
    (∀ (f g : LineForm) (cls : WriteClass) (left : Nat) (older newer : List QueueEntry),
        s.carries k b { kind := .entryWrite f cls, la := la, loc := l, superseded := mark } →
        oldestFor s.front.queue older newer la { la := la, state := .issued g (left + 1) } →
        if left = 0 then
          exec (.entryWriteComplete k b) s = .next { w f with front := { s.front with
            queue := older ++ newer
            writeOwed := s.front.writeOwed + if s.front.admission = .opened then 1 else 0 } }
        else
          exec (.entryWriteComplete k b) s = .next { w f with front := { s.front with
            queue := older ++ { la := la, state := .issued g left } :: newer } })
      ∧ (∀ (data : LineData) (i : RegionIx) (side : Side) (patrol : Bool) (cls : WriteClass),
        s.carries k b { kind := .repairWrite data i side patrol cls, la := la, loc := l, superseded := mark } →
        exec (.repairWriteComplete k b) s = .next { w (.data data) with
          counters := { s.counters with repairsWritten := countUp s.counters.repairsWritten }
          log := s.log.offer (.mirrorRepaired i side (homeLoc la))
          patrol := { s.patrol with step := if patrol then patrolLess s.patrol.step else s.patrol.step } })
      ∧ ∀ (data : LineData) (cls : WriteClass),
        s.carries k b { kind := .scrubWrite data cls, la := la, loc := l, superseded := mark } →
        exec (.scrubWriteComplete k b) s = .next { w (.data data) with
          counters := { s.counters with scrubWrites := countUp s.counters.scrubWrites }
          patrol := { s.patrol with step := patrolLess s.patrol.step } }

/-- An operation that a reset fell upon while it was in progress finishes: a read is classified and counted, a write
stores its line, and nothing else comes of it (R12, R55, R70, R75, R114, R137). -/
def Obligations.ResultsBeforeAResetAreDiscarded : Prop :=
  ∀ (k : RankNo) (b : BankNo) (d : Option StoredLine) (o : LineOp) (s : State),
    s.inBank k b = some o → o.abandoned = true →
    let read : Host.Outcome State Fault Refusal := .next ((s.freeBank k b).sense o.loc d).1
    let write (f : LineForm) : Host.Outcome State Fault Refusal := .next ((s.freeBank k b).storeForm o.loc f)
    match o.kind with
    | .hostRead _ _ => exec (.hostReadComplete k b d) s = read
    | .mergeRead _ _ => exec (.mergeReadComplete k b d) s = read
    | .failoverRead _ _ _ _ => exec (.failoverReadComplete k b d) s = read
    | .moveRead => exec (.moveReadComplete k b d) s = read
    | .patrolRead _ => exec (.patrolReadComplete k b d) s = read
    | .entryWrite f _ => exec (.entryWriteComplete k b) s = write f
    | .targetWrite f => exec (.targetWriteComplete k b) s = write f
    | .repairWrite data _ _ _ _ => exec (.repairWriteComplete k b) s = write (.data data)
    | .scrubWrite data _ => exec (.scrubWriteComplete k b) s = write (.data data)

/-! ### Rank schedulers (sections 9.1 to 9.3) -/

/-- The grants of R145 in their order, with the eligibility of R144 and the rank-wide operations of R142, for a line
operation that is not a restorative write. `eligible i o`: the operation at place `i`, oldest first, has its bank's
slot idle and no earlier one for its line. A grant makes the slot busy and frees the place; it clears the move-wait
count or, with a MOVE operation waiting, raises it up to 16 (R146); REFRESH lowers the debt (R147). That a self-refresh
entry, exit or initialization leaves the move-wait count is the model's reading (log entry 16). -/
def Obligations.GrantsFollowTheOrder : Prop :=
  ∀ (k : RankNo) (s : State),
    let r := s.ranks[k]
    let idle : Prop := r.wide = none ∧ ∀ b : BankNo, r.banks[b] = none
    let eligible (i : Nat) (o : LineOp) : Prop :=
      r.placed[i]? = some o ∧ r.banks[o.loc.bank] = none ∧ ∀ j < i, ∀ x, r.placed[j]? = some x → x.loc ≠ o.loc
    let hostStep (i : Nat) (o : LineOp) : Prop :=
      eligible i o ∧
        (o.kind.cls = .host ∨ ∃ j > i, ∃ x, r.placed[j]? = some x ∧ x.kind.cls = .host ∧ x.loc = o.loc)
    let first (P : Nat → LineOp → Prop) (i : Nat) (o : LineOp) : Prop := P i o ∧ ∀ j < i, ∀ x, ¬ P j x
    let goesFirst (o : LineOp) : Prop :=
      if 16 ≤ s.front.queue.length then o.kind.isRead = false else o.kind.isRead = true
    let moveWaits : Prop := ∃ o ∈ r.placed, o.kind.cls = .move
    let waited : Nat := if r.placed.any (fun o => decide (o.kind.cls = .move)) then min 16 (r.moveWait + 1) else r.moveWait
    let becomes (r' : RankSched) : Prop := exec (.schedulerGrant k) s = .next { s with ranks := s.ranks.set k r' }
    let nothing : Prop := exec (.schedulerGrant k) s = .next s
    let line (i : Nat) (o : LineOp) : Prop := becomes { r with
      placed := r.placed.eraseIdx i
      banks := r.banks.set o.loc.bank (some o)
      moveWait := if o.kind.cls = .move then 0 else waited }
    let refresh : Prop := becomes { r with wide := some .refresh, debt := r.debt - 1, moveWait := waited }
    let guard (i : Nat) (o : LineOp) : Prop := 16 ≤ r.moveWait ∧ eligible i o ∧ o.kind.cls = .move
    let opportunity : Prop := 1 ≤ r.debt ∧ (∀ o ∈ r.placed, o.kind.cls ≠ .host) ∧ idle
    (r.wide ≠ none → nothing)
      ∧ (r.wide = none → ∀ w, r.widePlaced = some w →
        (¬ idle → nothing)
          ∧ (idle → w = .entry →
            becomes { r with wide := some .entry, widePlaced := none, debt := 0, timerOn := false })
          ∧ (idle → w = .exit ∨ w = .init → becomes { r with wide := some w, widePlaced := none }))
      ∧ (r.wide = none → r.widePlaced = none → r.state ≠ .operating → nothing)
      ∧ (r.wide = none → r.widePlaced = none → r.state = .operating → 8 ≤ r.debt →
        (idle → refresh) ∧ (¬ idle → nothing))
      ∧ (r.wide = none → r.widePlaced = none → r.state = .operating → r.debt < 8 →
        (∀ i o, first guard i o → line i o)
          ∧ ((∀ i o, ¬ guard i o) →
            (∀ i o, o.kind.restorative = false →
                first (fun i o => hostStep i o ∧ goesFirst o) i o → line i o)
              ∧ ((∀ i o, ¬ (hostStep i o ∧ goesFirst o)) →
                (∀ i o, o.kind.restorative = false → first hostStep i o → line i o)
                  ∧ ((∀ i o, ¬ hostStep i o) →
                    (opportunity → refresh)
                      ∧ (¬ opportunity →
                        (∀ i o, first (fun i o => eligible i o ∧ o.kind.cls = .move) i o → line i o)
                          ∧ ((∀ i o, ¬ (eligible i o ∧ o.kind.cls = .move)) →
                            (∀ i o, o.kind.restorative = false →
                                first (fun i o => eligible i o ∧ o.kind.cls = .patrol) i o → line i o)
                              ∧ ((∀ i o, ¬ eligible i o) → nothing)))))))

/-- The check of a restorative write at its grant (R69), for one whose turn it is: written to its bank where its mark is
clear and a write of its line would still be placed there, and else discarded and counted, its part of the patrol step
done (R74, R136). After a discard the order is applied again for that slot alone (R145), and no operation for another
bank is granted with it. Either way a scrub write that waits with the patrol step takes the place that one leaves (R136).
That a discard adds nothing to the move-wait count is the model's reading (log entry 14). -/
def Obligations.RestorativeWritesAreCheckedAtGrant : Prop :=
  ∀ (k : RankNo) (o : LineOp) (rest : List LineOp) (s : State),
    let r := s.ranks[k]
    r.placed = o :: rest → o.loc.rank = k → r.state = .operating → r.wide = none → r.widePlaced = none → r.debt = 0 →
    r.moveWait < 16 → r.banks[o.loc.bank] = none → (∀ x ∈ rest, x.loc.bank ≠ o.loc.bank) →
    let lands : Prop := o.superseded = false ∧ ∃ locs, s.writeRoute o.la = .places locs ∧ o.loc ∈ locs
    let waited : Nat := if rest.any (fun x => decide (x.kind.cls = .move)) then r.moveWait + 1 else r.moveWait
    let granted : State := { s with ranks := s.ranks.set k { r with
      placed := rest
      banks := r.banks.set o.loc.bank (some o)
      moveWait := waited } }
    let dropped : State := { s with ranks := s.ranks.set k { r with placed := rest } }
    (∀ data i side patrol cls, o.kind = .repairWrite data i side patrol cls → (∀ x ∈ rest, x.kind.cls ≠ .host) →
        (lands → exec (.schedulerGrant k) s = .next granted)
          ∧ (¬ lands → exec (.schedulerGrant k) s = .next { dropped with
            counters := { s.counters with repairsSuperseded := countUp s.counters.repairsSuperseded }
            patrol := { s.patrol with step := if patrol then patrolLess s.patrol.step else s.patrol.step } }))
      ∧ (∀ data cls, o.kind = .scrubWrite data cls → (∀ x ∈ rest, x.kind.cls = .patrol) →
        (∀ p ∈ s.patrol.step, ∀ w ∈ p.waiting, w.loc.rank ≠ k) →
        (lands → exec (.schedulerGrant k) s = .next granted.withWaitingScrub)
          ∧ (¬ lands → exec (.schedulerGrant k) s = .next (State.withWaitingScrub { dropped with
            counters := { s.counters with scrubsSuperseded := countUp s.counters.scrubsSuperseded }
            patrol := { s.patrol with step := patrolLess s.patrol.step } })))

/-- A refresh timer expiry on an OPERATING rank whose timer runs raises a debt below 8; at 8 the debt stays, the late
refresh is counted and REFRESH_LATE is offered (R147, R153). The completion of a REFRESH leaves the rank without a
rank-wide operation (R142). -/
def Obligations.RefreshIsOwedAndPaid : Prop :=
  ∀ (k : RankNo) (s : State),
    let r := s.ranks[k]
    (s.resetN = false → r.timerOn = true → r.state = .operating → r.debt < 8 →
        exec (.refreshTimerExpiry k) s = .next { s with ranks := s.ranks.set k { r with debt := r.debt + 1 } })
      ∧ (s.resetN = false → r.timerOn = true → r.state = .operating → r.debt = 8 →
        exec (.refreshTimerExpiry k) s = .next { s with
          counters := { s.counters with
            refreshLate := s.counters.refreshLate.set k (countUp s.counters.refreshLate[k]) }
          log := s.log.offer (.refreshLate k) })
      ∧ (r.wide = some .refresh →
        exec (.refreshComplete k) s = .next { s with ranks := s.ranks.set k { r with wide := none } })

/-- Every step keeps each rank's refresh debt at 8 or less, its move-wait count at 16 or less, its repair writes waiting
at 15 or less, one scrub write waiting in the buffer, and every operation on the rank and bank of its location. -/
def Obligations.RankSchedulersStaySound : Prop :=
  ∀ s t : State, s.RanksSound → step s = .next t → t.RanksSound

/-! ### Patrol and the error tracker (chapter 8) -/

/-- The patrol timer's expiries (R129, R130, R131, R133): counted as skipped outside RUN or with a step in flight, let
pass with the cursor idle, and otherwise taken. The cursor goes forward over the regions being rebuilt and the rows being
moved to the first position to be read, which is read in the PATROL class where its data is, and moves past it, into the
next patrolled region at the end of its own. -/
def Obligations.PatrolExpiriesTakeSteps : Prop :=
  ∀ s : State, s.resetN = false → s.patrol.interval ≠ 0 →
    (s.quiesce ≠ .run ∨ s.patrol.step ≠ none →
        exec .patrolTimerExpiry s = .next { s with counters := { s.counters with
          skippedExpiries := countUp s.counters.skippedExpiries } })
      ∧ (s.quiesce = .run → s.patrol.step = none → s.patrol.cursor = none → exec .patrolTimerExpiry s = .next s)
      ∧ ∀ (i j : RegionIx) (q p : Nat) (treat : PatrolTreat) (turn : PatrolTurn) (l : Loc)
        (cursor : Option (RegionIx × Nat)),
        s.quiesce = .run → s.patrol.step = none → s.patrol.cursor = some (i, q) → s.HomesApart →
        s.firstRead (s.aheadOf i q) j p → s.patrolLookup j ((s.active[j]).lineAt p) treat turn l →
        s.cursorPast j p cursor false →
        exec .patrolTimerExpiry s = .next (s.patrolBegun j p treat turn l cursor)

/-- The end of a patrol pass (R130, R131, R140): the pass number and the counter rise, the tracker decays and PATROL_PASS
is offered, before the step is placed. It falls at the expiry that reads the last position of the highest patrolled
region: that it does so at this expiry, and not at the next, is the model's reading (log entry 12). With nothing more to
read ahead of the cursor the pass ends too, and the walk goes on from the lowest patrolled region; with nothing to read
anywhere no step is taken, and the cursor stands at that region's position 0. -/
def Obligations.PatrolPassEnds : Prop :=
  ∀ (i : RegionIx) (q : Nat) (s : State),
    s.resetN = false → s.patrol.interval ≠ 0 → s.quiesce = .run → s.patrol.step = none →
    s.patrol.cursor = some (i, q) → s.HomesApart →
    let around (j : RegionIx) (_ : Nat) : Prop := s.patrolled j
    (∀ (j : RegionIx) (p : Nat) (treat : PatrolTreat) (turn : PatrolTurn) (l : Loc) (cursor : Option (RegionIx × Nat)),
        s.patrolLookup j ((s.active[j]).lineAt p) treat turn l →
        (s.firstRead (s.aheadOf i q) j p → s.cursorPast j p cursor true →
            exec .patrolTimerExpiry s = .next (s.passEnded.patrolBegun j p treat turn l cursor))
          ∧ (s.noneToRead (s.aheadOf i q) → s.firstRead around j p → s.cursorPast j p cursor false →
            exec .patrolTimerExpiry s = .next (s.passEnded.patrolBegun j p treat turn l cursor)))
      ∧ ∀ j : RegionIx, s.patrolled j → (∀ n : RegionIx, n < j → ¬ s.patrolled n) → s.noneToRead (s.aheadOf i q) →
        s.noneToRead around →
        exec .patrolTimerExpiry s = .next { s.passEnded with
          patrol := { s.passEnded.patrol with cursor := some (j, 0) } }

/-- A single patrol read that completes (R133, R134, R136, R138): CORRECTED forms a scrub write at its location, placed
at once, or kept waiting with the step while another scrub write is placed and not granted, and in a SPARED region
reports the row to the tracker; UNCORRECTABLE is logged and, by policy, asks for retirement or counts against the side;
CLEAN and POISON do no more. The read is then done. That UNCORRECTABLE is offered before the event of what it leads to is
the model's choice (log entry 10), and that the scrub's routing class is the routing view's at its forming is the model's
reading (29). -/
def Obligations.PatrolReadIsHandled : Prop :=
  ∀ (k : RankNo) (b : BankNo) (d : Option StoredLine) (la : LineAddr) (l : Loc) (mark : Bool) (p : PatrolStep)
    (s : State),
    s.carries k b { kind := .patrolRead .single, la := la, loc := l, superseded := mark } →
    s.patrol.step = some p → p.outstanding = 1 →
    let r := (s.freeBank k b).sense l d
    let scrub : LineOp := { placedOp (.scrubWrite r.2.data (writeClass s.active la l)) la l with superseded := mark }
    let wait : WaitingScrub := { loc := l, data := r.2.data, cls := writeClass s.active la l, superseded := mark }
    let scrubbed : State :=
      if ∀ n : RankNo, (s.ranks[n]).scrubs = 0 then { r.1 with ranks := r.1.ranksWith scrub }
      else { r.1 with patrol := { s.patrol with step := some { p with waiting := some wait } } }
    let lost : State := { r.1.offer (.uncorrectable .patrol l) with patrol := { s.patrol with step := none } }
    let ended : State := { r.1 with patrol := { s.patrol with step := none } }
    exec (.patrolReadComplete k b d) s = .next (match r.2.outcome, p.treat with
      | .corrected, .plain | .corrected, .simplex _ _ => scrubbed
      | .corrected, .spared => scrubbed.correctedReport l.physRow p.region
      | .uncorrectable, .plain => lost
      | .uncorrectable, .spared => lost.retireInternal .uncorrectable l.physRow
      | .uncorrectable, .simplex side born => lost.sideReport p.region side born
      | _, _ => ended)

/-- The two reads of a DUPLEX pair as they complete (R67, R133, R135, R136). Either side CORRECTED forms a scrub write,
placed or kept waiting; UNCORRECTABLE is logged and counted against the side. After the first, its outcome is kept and
the shadow read placed. After the second, with one side UNCORRECTABLE, the other giving data, and the region DUPLEX under
the record of the expiry after this read's report, a repair write of the failed side is placed with the good side's data
and mark, or dropped and counted where 15 wait; the step ends with its last read or write. The order of the events of one
step is the model's choice (log entry 10), and so is that a region rebuilt to DUPLEX meanwhile is still DUPLEX (27); that
the routing class of a scrub or repair write is the routing view's at its forming is the model's reading (29). -/
def Obligations.PatrolPairIsRepaired : Prop :=
  ∀ (k : RankNo) (b : BankNo) (d : Option StoredLine) (la : LineAddr) (l : Loc) (mark : Bool) (p : PatrolStep)
    (born n : Nat) (s : State),
    s.patrol.step = some p → p.la = la → p.treat = .duplex born → p.outstanding = n + 1 →
    let r := (s.freeBank k b).sense l d
    let shadow : Loc := { homeLoc la with rank := (homeLoc la).rank + 1 }
    let scrub : LineOp := { placedOp (.scrubWrite r.2.data (writeClass s.active la l)) la l with superseded := mark }
    let room : Prop := ∀ n : RankNo, (s.ranks[n]).scrubs = 0
    let wait : Option WaitingScrub :=
      if r.2.outcome = .corrected ∧ ¬ room then
        some { loc := l, data := r.2.data, cls := writeClass s.active la l, superseded := mark }
      else p.waiting
    let scrubs : Nat := if r.2.outcome = .corrected then 1 else 0
    let reported (side : Side) : State :=
      match r.2.outcome with
      | .corrected => if room then { r.1 with ranks := r.1.ranksWith scrub } else r.1
      | .uncorrectable => (r.1.offer (.uncorrectable .patrol l)).sideReport p.region side born
      | .clean | .poison => r.1
    (s.carries k b { kind := .patrolRead .primary, la := la, loc := l, superseded := mark } →
        let t := reported .primary
        exec (.patrolReadComplete k b d) s = .next { t with
          ranks := t.ranksWith (placedOp (.patrolRead .shadow) la shadow)
          patrol := { s.patrol with step := some { p with
            outstanding := n + 1 + scrubs
            first := some { reading := r.2, superseded := mark }
            waiting := wait } } })
      ∧ (s.carries k b { kind := .patrolRead .shadow, la := la, loc := l, superseded := mark } →
        ∀ f : FirstRead, p.first = some f →
        let t := reported .shadow
        let good (o : ReadOutcome) : Prop := o = .clean ∨ o = .corrected
        let duplex : Prop := ∃ m ∈ t.mirrors[p.region], m.state = .duplex ∧ m.born = born
        let ends (u : State) (repairs : Nat) : Prop :=
          exec (.patrolReadComplete k b d) s = .next { u with patrol := { s.patrol with
            step := if n + scrubs + repairs = 0 then none
              else some { p with outstanding := n + scrubs + repairs, waiting := wait } } }
        let repair (side : Side) (x : Loc) (data : LineData) (mark : Bool) : Prop :=
          if (t.ranks[x.rank]).repairs < 15 then
            let write : LineOp :=
              { placedOp (.repairWrite data p.region side true (writeClass s.active la x)) la x with superseded := mark }
            ends { t with ranks := t.ranksWith write } 1
          else ends { t with counters := { t.counters with repairsDropped := countUp t.counters.repairsDropped } } 0
        let primaryLost : Prop := duplex ∧ f.reading.outcome = .uncorrectable ∧ good r.2.outcome
        let shadowLost : Prop := duplex ∧ r.2.outcome = .uncorrectable ∧ good f.reading.outcome
        (primaryLost → repair .primary (homeLoc la) r.2.data mark)
          ∧ (shadowLost → repair .shadow shadow f.reading.data f.superseded)
          ∧ (¬ primaryLost → ¬ shadowLost → ends t 0))

/-- A corrected report (R138, R139): discarded where the entry at its region index is no valid SPARED one; else the
row's count rises, up to 255, or the row is inserted at the tail with count 1, the oldest of the lowest counts given up
by a full list. At the region's threshold the row leaves the list and its retirement is requested. -/
def Obligations.CorrectedReportIsCounted : Prop :=
  ∀ (row : PhysRow) (i : RegionIx) (s : State), s.TrackerSound →
    let region := s.active[i]
    let without : State := { s with tracker := s.tracker.filter fun e => decide (e.row ≠ row) }
    (¬ (region.valid = true ∧ region.policy = .spared) → s.correctedReport row i = s)
      ∧ (region.valid = true → region.policy = .spared →
        (∀ (older newer : List TrackerEntry) (e : TrackerEntry), s.tracker = older ++ e :: newer → e.row = row →
            let n := min 255 (e.count + 1)
            s.correctedReport row i =
              if n = (s.active[e.region]).threshold.toNat then without.retireInternal .threshold row
              else { s with tracker := older ++ { e with count := n } :: newer })
          ∧ ((∀ e ∈ s.tracker, e.row ≠ row) →
            (region.threshold = 1 → s.correctedReport row i = s.retireInternal .threshold row)
              ∧ (region.threshold ≠ 1 → s.tracker.length < 32 →
                s.correctedReport row i = { s with tracker := s.tracker ++ [{ row := row, region := i, count := 1 }] })
              ∧ (region.threshold ≠ 1 → ∀ (older newer : List TrackerEntry) (e : TrackerEntry),
                s.tracker = older ++ e :: newer → s.tracker.length = 32 →
                (∀ x ∈ older, e.count < x.count) → (∀ x ∈ newer, e.count ≤ x.count) →
                s.correctedReport row i =
                  { s with tracker := older ++ newer ++ [{ row := row, region := i, count := 1 }] })))

/-- Every step keeps the tracker at 32 entries or fewer, one for a row, with counts from 1 to 255 (R138). -/
def Obligations.TrackerStaysSound : Prop :=
  ∀ s t : State, s.TrackerSound → step s = .next t → t.TrackerSound

/-! ### The move engine (chapter 6) -/

/-- An IDLE engine in RUN starts the job at the head of its queue: ROW_MOVE of a PENDING slot, which becomes COPYING,
from its current to its next location; RESYNC from the serving side of a rebuilding region to the other (R89, R101). A
RUNNING engine in RUN with no step in flight begins the step of its pointer, by placing the move read of the source in
the MOVE class, unless a write queue entry for that line is ISSUED (R102, R103). -/
def Obligations.JobsAndStepsBegin : Prop :=
  ∀ s : State, s.resetN = false → s.quiesce = .run →
    (s.engine.mode = .idle →
        (∀ (i : SlotIx) (rest : List JobRef) (e : SlotEntry) (next : RowNo),
            s.engine.queue = .rowMove i :: rest → s.slots[i] = some e → e.phase = .pending next →
            let ends : JobEnds := .rows { e.home with row := e.current } { e.home with row := next }
            exec .jobStart s = .next { s with
              slots := s.slots.set i (some { e with phase := .copying next })
              engine :=
                { mode := .running
                  job := some { ref := .rowMove i, ends := ends, length := 128, p := 0, step := none, lost := 0,
                                closed := false }
                  queue := rest } })
          ∧ ∀ (i : RegionIx) (rest : List JobRef) (m : MirrorRecord),
            s.engine.queue = .resync i :: rest → s.mirrors[i] = some m →
            m.state = .rebuildShadow ∨ m.state = .rebuildPrimary →
            let length := ((s.active[i]).last.toNat + 1 - (s.active[i]).first.toNat) * 2048
            let ends : JobEnds := .sides (if m.state = .rebuildShadow then .primary else .shadow)
            exec .jobStart s = .next { s with engine :=
              { mode := .running
                job := some { ref := .resync i, ends := ends, length := length, p := 0, step := none, lost := 0,
                              closed := false }
                queue := rest } })
      ∧ (s.engine.mode = .running → ∀ (j : Job), s.engine.job = some j → j.step = none → j.closed = false →
        j.p < j.length →
        let reading (la : LineAddr) (source target : Loc) : LineStep :=
          { position := j.p, la := la, source := source, target := target, phase := .reading, held := none,
            discarded := false, lost := false }
        let begins (la : LineAddr) (source target : Loc) : Prop :=
          let busy : Prop := ∃ e ∈ s.front.queue, e.la = la ∧ ∃ f n, e.state = .issued f n
          (busy → exec .lineStepBegin s = .next s)
            ∧ (¬ busy → exec .lineStepBegin s = .next { s with
              ranks := s.ranksWith (placedOp .moveRead la source)
              engine := { s.engine with job := some { j with step := some (reading la source target) } } })
        (∀ (i : SlotIx) (e : SlotEntry) (source target : PhysRow),
            j.ref = .rowMove i → j.ends = .rows source target → s.slots[i] = some e → j.length = 128 →
            let c : ColNo := Fin.ofNat 128 j.p
            begins (e.home.atCol c).lineAddr (source.atCol c) (target.atCol c))
          ∧ ∀ (i : RegionIx) (source : Side), j.ref = .resync i → j.ends = .sides source →
            let la := (s.active[i]).lineAt j.p
            begins la (sideLoc source la) (sideLoc source.other la))

/-- A move read that completes places the target write of its step, with the data read or as poison (R104). An
UNCORRECTABLE one of a step without the discarded mark is a line lost: counted in the job and, for a row move, in the
slot; logged under source COPY or RESYNC; for a resync, counted against the source side (R90, R105). That the step
remembers that it counted, and the order of the events of one step, are the model's (log entries 28 and 10). -/
def Obligations.MoveReadIsCarriedOn : Prop :=
  ∀ (k : RankNo) (b : BankNo) (d : Option StoredLine) (la : LineAddr) (l : Loc) (mark : Bool) (j : Job)
    (st : LineStep) (s : State),
    s.carries k b { kind := .moveRead, la := la, loc := l, superseded := mark } →
    s.engine.job = some j → j.step = some st →
    let r := (s.freeBank k b).sense l d
    let form : LineForm :=
      match r.2.outcome with
      | .clean | .corrected => .data r.2.data
      | .uncorrectable | .poison => .poison
    let moved (lost : Nat) (counted : Bool) : State := { r.1 with
      ranks := r.1.ranksWith (placedOp (.targetWrite form) st.la st.target)
      engine := { s.engine with job := some { j with
        lost := lost
        step := some { st with phase := .writing, lost := counted } } } }
    (r.2.outcome ≠ .uncorrectable ∨ st.discarded = true →
        exec (.moveReadComplete k b d) s = .next (moved j.lost st.lost))
      ∧ (r.2.outcome = .uncorrectable → st.discarded = false →
        (∀ (i : SlotIx) (e : SlotEntry), j.ref = .rowMove i → s.slots[i] = some e →
            exec (.moveReadComplete k b d) s = .next { moved (j.lost + 1) true with
              slots := s.slots.set i (some { e with lost := e.lost + 1 })
              log := s.log.offer (.uncorrectable .copy st.source) })
          ∧ ∀ (i : RegionIx) (side : Side) (m : MirrorRecord),
            j.ref = .resync i → j.ends = .sides side → s.mirrors[i] = some m →
            exec (.moveReadComplete k b d) s = .next
              (State.sideReport { moved (j.lost + 1) true with log := s.log.offer (.uncorrectable .resync st.source) } i side
                m.born))

/-- A target write that completes stores its line and ends its step. The pointer passes the position, the engine
RUNNING in RUN and PAUSED outside it (R106, R109). At the last position the slot becomes ACTIVE at its next location, or
the region DUPLEX with both counts 0, and the engine IDLE (R91, R108, R122). In either case the step's held entry is then
released in the state so left, to be placed afresh or, where its line is no longer the router's, to leave as STALE (R51,
R58, R107). The end of a discarded step changes no pointer, and drops a closed job (R106, R111, R112, R113). -/
def Obligations.TargetWriteEndsTheStep : Prop :=
  ∀ (k : RankNo) (b : BankNo) (f : LineForm) (la : LineAddr) (l : Loc) (mark : Bool) (j : Job) (st : LineStep)
    (s : State),
    s.carries k b { kind := .targetWrite f, la := la, loc := l, superseded := mark } →
    s.engine.job = some j → j.step = some st →
    let w := (s.freeBank k b).storeForm l f
    let mode : EngineMode := if s.quiesce = .run then .running else .paused
    let finished : Engine := { s.engine with mode := .idle, job := none }
    let leads (t : State) : Prop := ∃ u : State, exec (.targetWriteComplete k b) s = .next u ∧ t.released st.held u
    (st.discarded = true → j.closed = false →
        exec (.targetWriteComplete k b) s = .next { w with engine := { s.engine with
          mode := mode
          job := some { j with step := none } } })
      ∧ (st.discarded = true → j.closed = true →
        exec (.targetWriteComplete k b) s = .next { w with engine := finished })
      ∧ (st.discarded = false → st.position + 1 ≠ j.length →
        leads { w with engine := { s.engine with
          mode := mode
          job := some { j with p := st.position + 1, step := none } } })
      ∧ (st.discarded = false → st.position + 1 = j.length →
        (∀ (i : SlotIx) (e : SlotEntry) (next : RowNo), j.ref = .rowMove i → s.slots[i] = some e →
            e.phase = .copying next →
            leads { w with
              engine := finished
              slots := s.slots.set i (some { e with current := next, phase := .active })
              log := s.log.offer (.moveDone i e.lost) })
          ∧ ∀ (i : RegionIx) (m : MirrorRecord), j.ref = .resync i → s.mirrors[i] = some m →
            leads { w with
              engine := finished
              mirrors := s.mirrors.set i (some { m with state := .duplex, primaryCount := 0, shadowCount := 0 })
              log := s.log.offer (.resyncDone i j.lost) })

/-- Every step keeps the job queue and the engine in agreement with the substitution table and the mirror records: each
reference queued at most once, the row moves queued those of the PENDING slots, that of a COPYING slot in progress, the
resync of each rebuilding region queued or in progress (R77, R89, R98, R99, R101, R108, R112, R113). Every step keeps
the home rows of the entries in use distinct (R76). -/
def Obligations.JobsAndSlotsStaySound : Prop :=
  (∀ s t : State, s.JobsSound → step s = .next t → t.JobsSound)
    ∧ ∀ s t : State, s.HomesApart → step s = .next t → t.HomesApart

/-! ### Quiesce and resets (sections 9.4 and 9.5) -/

/-- QREQ_N and the drain outside reset (R109, R110, R149, R150, R151): in RUN its assertion begins DRAINING and pauses
an engine with no step in flight; in DRAINING its deassertion returns to RUN, and in ASLEEP it begins WAKING, QACK_N
deasserted, with self-refresh exit placed on every rank; in the other states only its level changes. With the drain
condition met, DRAINING gives way to ENTERING, with self-refresh entry placed on every rank. -/
def Obligations.QuiesceFollowsItsRequest : Prop :=
  ∀ s : State, s.resetN = false →
    let placing (t : State) (w : WideOp) : Prop :=
      ∀ k : RankNo, t.ranks[k] = { s.ranks[k] with widePlaced := some w }
    let resumed : EngineMode := if s.engine.mode = .paused then .running else s.engine.mode
    let rested : EngineMode :=
      if s.engine.mode = .running ∧ (∀ j ∈ s.engine.job, j.step = none) then .paused else s.engine.mode
    (s.quiesce = .run →
        exec .qreqAssert s = .next { s with
          qreq := true
          quiesce := .draining
          engine := { s.engine with mode := rested } })
      ∧ (s.quiesce ≠ .run → exec .qreqAssert s = .next { s with qreq := true })
      ∧ (s.quiesce = .draining → s.front.creditsStarted = true →
        exec .qreqDeassert s = .next { s with
          qreq := false
          quiesce := .run
          engine := { s.engine with mode := resumed } })
      ∧ (s.quiesce = .draining → s.front.creditsStarted = false → s.front.admission = .opened →
        exec .qreqDeassert s = .next { s with
          qreq := false
          quiesce := .run
          engine := { s.engine with mode := resumed }
          sent := s.sent ++ [.credit 32 24 true]
          front := { s.front with creditsStarted := true, readBalance := 32, writeBalance := 24 } })
      ∧ (s.quiesce = .draining → s.front.creditsStarted = false → s.front.admission = .closed →
        exec .qreqDeassert s = .next { s with
          qreq := false
          quiesce := .run
          engine := { s.engine with mode := resumed }
          front := { s.front with creditsStarted := true } })
      ∧ (s.quiesce = .asleep → ∃ t : State, exec .qreqDeassert s = .next t ∧ placing t .exit
        ∧ t = { s with qreq := false, qack := false, quiesce := .waking, ranks := t.ranks })
      ∧ (s.quiesce ≠ .draining → s.quiesce ≠ .asleep → exec .qreqDeassert s = .next { s with qreq := false })
      ∧ (s.quiesce = .draining → s.front.tracker = [] → s.front.queue = [] → s.front.readOwed = 0 →
        s.front.writeOwed = 0 → (∀ j ∈ s.engine.job, j.step = none) → s.patrol.step = none →
        (∀ k : RankNo, (s.ranks[k]).placed = [] ∧ ∀ b : BankNo, (s.ranks[k]).banks[b] = none) →
        ∃ t : State, exec .drainComplete s = .next t ∧ placing t .entry
          ∧ t = { s with quiesce := .entering, ranks := t.ranks })

/-- The rank-wide operations that a quiesce or a power-on places, at their completion (R142, R147, R148, R150, R151).
The last self-refresh entry of ENTERING leads to ASLEEP with QACK_N asserted, or to WAKING with every exit placed; the
last exit of WAKING and the last initialization of INIT lead to RUN, or to DRAINING while QREQ_N is asserted. An entry
that a warm reset fell upon completes in WAKING, and the rank's exit is placed (R152): that it is placed at once is the
model's reading (log entry 9). -/
def Obligations.RankWideOperationsComplete : Prop :=
  ∀ (k : RankNo) (s : State), s.resetN = false →
    let after (r : RankSched) : State := { s with ranks := s.ranks.set k r }
    let asleep : State := after { s.ranks[k] with wide := none, state := .selfRefresh }
    let awake : State := after { s.ranks[k] with wide := none, state := .operating, debt := 0, timerOn := true }
    let ready : State := after { s.ranks[k] with wide := none, state := .operating, timerOn := true }
    let others (x : RankState) : Prop := ∀ n : RankNo, n ≠ k → (s.ranks[n]).state = x
    let settled (r : RankSched) : Prop :=
      r.wide ≠ some .entry ∧ r.wide ≠ some .exit ∧ r.widePlaced ≠ some .entry ∧ r.widePlaced ≠ some .exit
    let onward (t : State) : State := if s.qreq = true then t.enterDraining else t.enterRun
    ((s.ranks[k]).wide = some .entry → s.quiesce = .entering →
        (¬ others .selfRefresh → exec (.selfRefreshEntryComplete k) s = .next asleep)
          ∧ (others .selfRefresh → s.qreq = true →
            exec (.selfRefreshEntryComplete k) s = .next { asleep with quiesce := .asleep, qack := true })
          ∧ (others .selfRefresh → s.qreq = false →
            ∃ t : State, exec (.selfRefreshEntryComplete k) s = .next t
              ∧ (∀ n : RankNo, t.ranks[n] = { asleep.ranks[n] with widePlaced := some .exit })
              ∧ t = { s with quiesce := .waking, qack := false, ranks := t.ranks }))
      ∧ ((s.ranks[k]).wide = some .entry → s.quiesce = .waking →
        exec (.selfRefreshEntryComplete k) s = .next
          (after { s.ranks[k] with wide := none, state := .selfRefresh, widePlaced := some .exit }))
      ∧ ((s.ranks[k]).wide = some .exit → s.quiesce = .waking → (s.ranks[k]).widePlaced = none →
        (¬ (others .operating ∧ ∀ n : RankNo, n ≠ k → settled s.ranks[n]) →
            exec (.selfRefreshExitComplete k) s = .next awake)
          ∧ (others .operating → (∀ n : RankNo, n ≠ k → settled s.ranks[n]) →
            exec (.selfRefreshExitComplete k) s = .next (onward awake)))
      ∧ ((s.ranks[k]).wide = some .init → s.quiesce = .init →
        (¬ others .operating → exec (.rankInitComplete k) s = .next ready)
          ∧ (others .operating → exec (.rankInitComplete k) s = .next (onward ready)))

/-- Warm reset, at the assertion and at the release of RESET_N (R17, R55, R75, R98, R114, R127, R137, R140, R146, R147,
R152, R161, R162). The model's own readings: what takes place between the two (log entry 9); that at a release into WAKING
exit is placed at once on each rank in SELF_REFRESH, though an entry still runs on another rank, where R152 has the entry
in progress complete first (9); and that the timer restarts on an OPERATING rank whose entry is in progress too, by R152,
where R147 stops it at the grant of the entry (21). -/
def Obligations.WarmResetKeepsWhatItMust : Prop :=
  ∀ s : State,
    (s.resetN = false → ∃ t : State, exec .warmResetAssert s = .next t
        ∧ t = { s with
          resetN := true
          qack := false
          front := { admission := .opened, creditsStarted := false, readBalance := 0, writeBalance := 0,
                     readOwed := 0, writeOwed := 0, tracker := [], queue := [] }
          staged := s.active
          tracker := []
          patrol := { s.patrol with step := none }
          slots := t.slots
          ranks := t.ranks
          engine := { mode := .idle
                      job := none
                      queue := ((List.finRange 64).filter t.slotPending).map .rowMove
                        ++ ((List.finRange 8).filter s.regionRebuilding).map .resync } }
        ∧ (∀ i : SlotIx, t.slots[i] = (s.slots[i]).map fun e => match e.phase with
            | .copying n => { e with phase := .pending n, lost := 0 }
            | _ => e)
        ∧ ∀ k : RankNo,
          (t.ranks[k]).placed = [] ∧ (t.ranks[k]).debt = 0 ∧ (t.ranks[k]).moveWait = 0
            ∧ (t.ranks[k]).state = (s.ranks[k]).state ∧ (t.ranks[k]).wide = (s.ranks[k]).wide
            ∧ (t.ranks[k]).widePlaced = (if (s.ranks[k]).widePlaced = some .init then some .init else none)
            ∧ ∀ b : BankNo, (t.ranks[k]).banks[b] = ((s.ranks[k]).banks[b]).map fun o => { o with abandoned := true })
      ∧ (s.resetN = true →
        let timers (r : RankSched) : RankSched := { r with timerOn := decide (r.state = .operating) }
        let changing (r : RankSched) : Prop := r.state = .selfRefresh ∨ r.changing = true
        ∃ t u : State, exec .warmResetRelease s = .next t
          ∧ u = { s with
            resetN := false
            port := { s.port with response := [0x08, 0x00, 0xF8] }
            log := s.log.offer (.resetSeen true)
            ranks := u.ranks }
          ∧ (∀ k : RankNo, u.ranks[k] = timers s.ranks[k])
          ∧ ((∃ k : RankNo, (s.ranks[k]).state = .initializing) → t = { u with quiesce := .init })
          ∧ ((∀ k : RankNo, (s.ranks[k]).state ≠ .initializing) → (∃ k : RankNo, changing s.ranks[k]) →
            t = { u with quiesce := .waking, ranks := t.ranks }
              ∧ ∀ k : RankNo, t.ranks[k] =
                if (s.ranks[k]).state = .selfRefresh ∧ (s.ranks[k]).wide = none then
                  { timers s.ranks[k] with widePlaced := some .exit }
                else timers s.ranks[k])
          ∧ ((∀ k : RankNo, (s.ranks[k]).state = .operating ∧ ¬ changing s.ranks[k]) →
            t = if s.qreq = true then u.enterDraining else u.enterRun))

/-- While RESET_N is asserted nothing but the rank ports goes on (R39, R152, R162): every command but a completion or a
grant at a rank port, an edge of QREQ_N, a power-on reset and the release leaves the state as it is; an edge of QREQ_N
changes its level alone; and a rank-wide operation that completes changes its rank alone. The release without RESET_N
asserted changes nothing. All of this is the model's reading of the time between the two edges (log entry 9). -/
def Obligations.NothingElseHappensUnderReset : Prop :=
  (∀ (c : Instr) (s : State), s.resetN = true →
      match c with
      | .hostReadComplete _ _ _ | .failoverReadComplete _ _ _ | .mergeReadComplete _ _ _ | .entryWriteComplete _ _
      | .schedulerGrant _ | .repairWriteComplete _ _ | .scrubWriteComplete _ _ | .refreshComplete _
      | .patrolReadComplete _ _ _ | .moveReadComplete _ _ _ | .targetWriteComplete _ _ | .powerOnReset _
      | .warmResetRelease => True
      | .qreqAssert => exec c s = .next { s with qreq := true }
      | .qreqDeassert => exec c s = .next { s with qreq := false }
      | .selfRefreshEntryComplete k => (s.ranks[k]).wide = some .entry →
        exec c s = .next { s with ranks := s.ranks.set k { s.ranks[k] with wide := none, state := .selfRefresh } }
      | .selfRefreshExitComplete k => (s.ranks[k]).wide = some .exit →
        exec c s = .next { s with
          ranks := s.ranks.set k { s.ranks[k] with wide := none, state := .operating, debt := 0, timerOn := true } }
      | .rankInitComplete k => (s.ranks[k]).wide = some .init →
        exec c s = .next { s with
          ranks := s.ranks.set k { s.ranks[k] with wide := none, state := .operating, timerOn := true } }
      | _ => exec c s = .next s)
    ∧ ∀ s : State, s.resetN = false → exec .warmResetRelease s = .next s

/-- Every step keeps the quiesce controller, the rank states and QACK_N in agreement; and in that agreement QACK_N is
asserted only with the read tracker and the write queue empty, no line step and no patrol step in flight, and every
rank in self-refresh (R150). -/
def Obligations.QuietStaysSound : Prop :=
  (∀ s t : State, s.QuietSound → step s = .next t → t.QuietSound) ∧ ∀ s : State, s.QuietSound → s.QuietPromise

/-! ### The region table (chapter 2) -/

/-- STAGE_REGION stores its entry, normalised, or answers BAD_ARG (R15); READ_REGION answers the entry of the table
selected as it stands (R16, section 11.6). -/
def Obligations.RegionsAreStagedAndRead : Prop :=
  ∀ (index valid rank policy patrol threshold selector : Byte) (first last : BitVec 16) (s : State),
    s.resetN = false →
    let bad : State := s.answering 0x04 []
    let flag (b : Byte) : Prop := b = 0 ∨ b = 1
    let bytes (e : RegionEntry) : List Byte :=
      [if e.valid then 1 else 0, e.rank, e.first.extractLsb' 8 8, e.first.extractLsb' 0 8, e.last.extractLsb' 8 8,
       e.last.extractLsb' 0 8,
       match e.policy with
        | .plain => 0
        | .spared => 1
        | .mirrored => 2
        | .pool => 3
        | .closed => 4,
       if e.patrol then 1 else 0, e.threshold]
    (7 < index.toNat ∨ 4 < policy.toNat ∨ ¬ flag valid ∨ ¬ flag patrol →
        exec (.stageRegion index valid rank first last policy patrol threshold) s = .next bad)
      ∧ (∀ i : RegionIx, i.val = index.toNat → policy.toNat ≤ 4 → flag valid → flag patrol →
        exec (.stageRegion index valid rank first last policy patrol threshold) s = .next { s.answering 0x00 [] with
          staged := s.staged.set i
            { valid := decide (valid = 1), rank := rank, first := first, last := last,
              policy := if policy = 0 then .plain else if policy = 1 then .spared else if policy = 2 then .mirrored
                else if policy = 3 then .pool else .closed,
              patrol := decide (patrol = 1) && decide (policy.toNat < 3),
              threshold := if policy = 1 then threshold else 0 } })
      ∧ (7 < index.toNat ∨ 1 < selector.toNat → exec (.readRegion index selector) s = .next bad)
      ∧ ∀ i : RegionIx, i.val = index.toNat →
        (selector = 0 → exec (.readRegion index selector) s = .next (s.answering 0x00 (bytes s.active[i])))
          ∧ (selector = 1 → exec (.readRegion index selector) s = .next (s.answering 0x00 (bytes s.staged[i])))

/-- COMMIT_REGIONS (R22 to R30, R132). The five checks in their order, the first that fails refusing the commit with its
reason and the least index it considers, and changing nothing: the range check (R23), the overlap check (R24), the
containment of every slot in use (R25), the POOL set of a rank with a slot in use (R26), and the regions being rebuilt
(R27). A table that passes them all becomes active whole: the tracker is emptied, the spare cursors of the ranks whose
POOL set changes return to 0, mirror records are kept for identical entries, created in REBUILD_SHADOW with a RESYNC
queued for new ones and dropped for the rest, and the patrol cursor is kept or placed. Which index a refusal names where
several slots or ranks fail is the model's reading (log entry 13). -/
def Obligations.CommitIsWholeOrNothing : Prop :=
  ∀ s : State, s.resetN = false →
    let refused (reason : Byte) (i : RegionIx) : Prop :=
      exec .commitRegions s = .next (s.answering 0x06 [reason, BitVec.ofNat 8 i.val])
    let lowest (P : RegionIx → Prop) (i : RegionIx) : Prop := P i ∧ ∀ j : RegionIx, j < i → ¬ P j
    let overlaps (i : RegionIx) : Prop :=
      (s.staged[i]).valid = true ∧ ∃ j : RegionIx, (s.staged[j]).valid = true ∧ ¬ (s.staged[i]).Apart s.staged[j]
        ∧ ((i ≠ j ∧ (s.staged[i]).rank = (s.staged[j]).rank) ∨
          ((s.staged[j]).policy = .mirrored ∧ (s.staged[i]).rank.toNat = (s.staged[j]).rank.toNat + 1))
    let covers (e : RegionEntry) (r : PhysRow) : Prop :=
      e.valid = true ∧ e.rank.toNat = r.rank.val ∧ e.first.toNat ≤ r.row.val ∧ r.row.val ≤ e.last.toNat
    let within (p : Policy) (r : PhysRow) : Prop :=
      ∃ j : RegionIx, (s.staged[j]).policy = p ∧ covers s.staged[j] r
    let fails (e : SlotEntry) (r : PhysRow) : Prop :=
      (r = e.home ∧ ¬ within .spared r) ∨ (r = e.currentRow ∧ e.current ≠ e.home.row ∧ ¬ within .pool r)
        ∨ (e.nextRow = some r ∧ ¬ within .pool r)
    let contained : Prop := ∀ n : SlotIx, ∀ e ∈ s.slots[n], ∀ r, ¬ fails e r
    let considered (i : RegionIx) : Prop :=
      ∃ n : SlotIx, ∃ e ∈ s.slots[n], ∃ r, fails e r ∧ covers s.active[i] r
    let sameExtent (i : RegionIx) : Prop :=
      (s.active[i]).valid = (s.staged[i]).valid ∧ (s.active[i]).rank = (s.staged[i]).rank
        ∧ (s.active[i]).first = (s.staged[i]).first ∧ (s.active[i]).last = (s.staged[i]).last
        ∧ (s.active[i]).policy = (s.staged[i]).policy
    let poolOf (k : RankNo) (e : RegionEntry) : Prop := e.valid = true ∧ e.rank.toNat = k.val ∧ e.policy = .pool
    let poolKept (k : RankNo) : Prop := ∀ n, poolStripe s.active k n ↔ poolStripe s.staged k n
    let repooled (i : RegionIx) : Prop :=
      ∃ k : RankNo, ¬ poolKept k ∧ (∃ n : SlotIx, ∃ e ∈ s.slots[n], e.home.rank = k)
        ∧ (poolOf k s.active[i] ∨ poolOf k s.staged[i]) ∧ ¬ sameExtent i
    let disturbed (i : RegionIx) : Prop := s.regionRebuilding i = true ∧ ¬ sameMirrored s.active[i] s.staged[i]
    let created (i : RegionIx) : Prop :=
      (s.staged[i]).valid = true ∧ (s.staged[i]).policy = .mirrored ∧ ¬ sameMirrored s.active[i] s.staged[i]
    let patrolled (i : RegionIx) : Prop := (s.staged[i]).valid = true ∧ (s.staged[i]).patrol = true
    let stays (i : RegionIx) : Prop := patrolled i ∧ sameExtent i
    (∀ i, lowest (fun i => ¬ (s.staged[i]).InRange) i → refused 1 i)
      ∧ ((∀ i : RegionIx, (s.staged[i]).InRange) → ∀ i, lowest overlaps i → refused 2 i)
      ∧ (tableSound s.staged → (∀ i, lowest considered i → refused 3 i)
        ∧ (contained → (∀ i, lowest repooled i → refused 3 i)
          ∧ ((∀ i, ¬ repooled i) → ∀ i, lowest disturbed i → refused 3 i)))
      ∧ (tableSound s.staged → contained → (∀ i, ¬ repooled i) → (∀ i, ¬ disturbed i) →
        ∃ t : State, exec .commitRegions s = .next t
          ∧ t = { s.answering 0x00 [] with
            active := s.staged
            tracker := []
            cursors := t.cursors
            mirrors := t.mirrors
            engine := { s.engine with queue := t.engine.queue }
            patrol := { s.patrol with cursor := t.patrol.cursor }
            commits := s.commits + 1 }
          ∧ (∀ (k : RankNo) (b : BankNo),
            (¬ poolKept k → t.cursors[cursorIx k b] = 0)
              ∧ (poolKept k → t.cursors[cursorIx k b] = s.cursors[cursorIx k b]))
          ∧ (∀ i : RegionIx,
            (created i → t.mirrors[i] =
                some { state := .rebuildShadow, primaryCount := 0, shadowCount := 0, born := s.commits + 1 })
              ∧ (sameMirrored s.active[i] s.staged[i] → t.mirrors[i] = s.mirrors[i])
              ∧ (¬ ((s.staged[i]).valid = true ∧ (s.staged[i]).policy = .mirrored) → t.mirrors[i] = none))
          ∧ (∃ news : List RegionIx, t.engine.queue = s.engine.queue ++ news.map .resync
            ∧ news.Pairwise (· < ·) ∧ ∀ i, i ∈ news ↔ created i)
          ∧ (∀ i q, s.patrol.cursor = some (i, q) → stays i → t.patrol.cursor = some (i, q))
          ∧ ((∀ i, ¬ patrolled i) → t.patrol.cursor = none)
          ∧ (s.patrol.cursor = none → ∀ j, lowest patrolled j → t.patrol.cursor = some (j, 0))
          ∧ ∀ i q, s.patrol.cursor = some (i, q) → ¬ stays i → ∀ j, patrolled j →
            (i < j ∧ (∀ n, i < n → n < j → ¬ patrolled n))
              ∨ (j ≤ i ∧ (∀ n, i < n → ¬ patrolled n) ∧ ∀ n, n < j → ¬ patrolled n) →
            t.patrol.cursor = some (j, 0))

/-- Every step keeps the active table within the checks of a commit, the entries of both tables normalised, and a
mirror record, with counts up to 4, for exactly the valid MIRRORED entries of the active table (R15, R18, R23, R24, R30,
R116). -/
def Obligations.RegionsStaySound : Prop :=
  ∀ s t : State, s.RegionsSound → step s = .next t → t.RegionsSound

/-! ### The substitution table (chapter 5) -/

/-- The spares of a rank in their order: the rows of its POOL stripes, each once, ascending, as many as the rank has
POOL stripes (R78). -/
def Obligations.SparesAscend : Prop :=
  ∀ (t : RegionTable) (k : RankNo), tableSound t →
    (∀ n r, spareAt t k n = some r → poolStripe t k r)
      ∧ (∀ r, poolStripe t k r → ∃ n, spareAt t k n = some r)
      ∧ (∀ m n r x, m < n → spareAt t k m = some r → spareAt t k n = some x → r < x)
      ∧ ∀ n, (spareAt t k n).isSome = decide (n < spareCount t k)

/-- Every step keeps the spare cursors within the spares of their ranks (R79), the locations of the entries in use on
their home rows or on spares already taken, and no physical row in two roles (R76, R77), over tables that have passed
their checks and distinct home rows. -/
def Obligations.SparesStaySound : Prop :=
  ∀ s t : State, s.RegionsSound → s.HomesApart → s.SparesSound → step s = .next t → t.SparesSound

/-- A retirement request for a row in each of its cases, from RETIRE_ROW without NO_COPY and from an internal source (R80
to R88, R93). (d): a new retirement takes the lowest-numbered FREE slot and the spare at the cursor, or is refused
NOT_SPARED, TABLE_FULL or NO_SPARE. (a): ALREADY. (b): an ACTIVE entry is re-targeted, or refused NO_SPARE; for a PENDING
or COPYING one an internal request is merged in silence and RETIRE_ROW answers ALREADY. (c): the next location is
replaced, a running copy restarting from 0, or the move is abandoned and refused NO_SPARE. A refusal is the command's
answer, and RETIRE_REFUSED for an internal source. The step in flight of a copy restarted or abandoned is discarded and
its held entry released (R107, R111, R112); that what it counted as lost is taken back (R90) is log entry 28. -/
def Obligations.RetirementRequestsAreSorted : Prop :=
  ∀ (r : PhysRow) (s : State),
    let c : Instr := .retireRow (BitVec.ofNat 8 r.rank.val) (BitVec.ofNat 8 r.bank.val) (BitVec.ofNat 16 r.row.val) 0
    let spared : Prop := ∃ i patrol, decodeRow s.active r = .region i .spared patrol
    let spare : Option RowNo := spareAt s.active r.rank s.cursors[cursorIx r.rank r.bank]
    let ends (t : Cause → State) (held : Option LineAddr) (result : Byte) (payload : List Byte)
        (event : Option RetireReason) : Prop :=
      (s.resetN = false → ∃ u : State, exec c s = .next u ∧ ((t .management).answering result payload).released held u)
        ∧ ∀ cause, State.released (match event with
            | some why => { t cause with log := (t cause).log.offer (.retireRefused r why) }
            | none => t cause) held (s.retireInternal cause r)
    let refused (t : State) (held : Option LineAddr) (code : Byte) (why : RetireReason) : Prop :=
      ends (fun _ => t) held 0x06 [code, 0xFF] (some why)
    let taken (i : SlotIx) (e : Cause → SlotEntry) (cause : Cause) : State :=
      { s with
        slots := s.slots.set i (some (e cause))
        cursors := s.cursors.set (cursorIx r.rank r.bank) (s.cursors[cursorIx r.rank r.bank] + 1)
        log := s.log.offer (.retireStarted i r (e cause).cause)
        tracker := s.tracker.filter fun x => decide (x.row ≠ r) }
    let queued (i : SlotIx) (t : State) : State :=
      { t with engine := { s.engine with queue := s.engine.queue ++ [.rowMove i] } }
    let accepted (i : SlotIx) (action : Byte) (x : RowNo) (held : Option LineAddr) (t : Cause → State) : Prop :=
      ends t held 0x00 ([BitVec.ofNat 8 i.val, action] ++ be16 x.val) none
    let noHome : Prop := ∀ n : SlotIx, ∀ e ∈ s.slots[n], e.home = r → e.currentRow = r
    let noCurrent : Prop := ∀ n : SlotIx, ∀ e ∈ s.slots[n], e.currentRow ≠ r
    (s.rowApart r →
        (¬ spared → refused s none 4 .notSpared)
          ∧ (spared → (∀ n : SlotIx, s.slots[n] ≠ none) → refused s none 5 .tableFull)
          ∧ (spared → ∀ i : SlotIx, s.lowestFree i →
            (spare = none → refused s none 6 .noSpare)
              ∧ ∀ x, spare = some x → accepted i 0 x none fun cause => queued i (taken i
                (fun cause => { home := r, current := r.row, phase := .pending x, cause := cause, lost := 0 }) cause)))
      ∧ (∀ n : SlotIx, ∀ e ∈ s.slots[n], e.home = r → e.currentRow ≠ r → refused s none 7 .already)
      ∧ (noHome → ∀ n : SlotIx, ∀ e ∈ s.slots[n], e.currentRow = r →
        (∀ m : SlotIx, ∀ f ∈ s.slots[m], f.currentRow = r → m = n) →
        (e.phase ≠ .active → ends (fun _ => s) none 0x06 [7, 0xFF] none)
          ∧ (e.phase = .active → spare = none → refused s none 6 .noSpare)
          ∧ (e.phase = .active → ∀ x, spare = some x → accepted n 1 x none fun cause => queued n (taken n
            (fun _ => { e with phase := .pending x, cause := .targetFailed, lost := 0 }) cause)))
      ∧ (noHome → noCurrent → ∀ n : SlotIx, ∀ e ∈ s.slots[n], e.nextRow = some r →
        (∀ m : SlotIx, ∀ f ∈ s.slots[m], f.nextRow = some r → m = n) →
        let cause : Cause := if e.current = e.home.row then e.cause else .targetFailed
        let left (lost : Nat) : Option SlotEntry :=
          if e.current = e.home.row then none else some { e with phase := .active, lost := lost }
        (e.phase = .pending r.row →
            (∀ x, spare = some x → accepted n 2 x none
              (taken n fun _ => { e with phase := .pending x, cause := cause, lost := 0 }))
              ∧ (spare = none → refused { s with
                slots := s.slots.set n (left e.lost)
                engine := { s.engine with queue := s.engine.queue.erase (.rowMove n) } } none 6 .noSpare))
          ∧ (e.phase = .copying r.row → ∀ j : Job, s.engine.job = some j → j.ref = .rowMove n → j.closed = false →
            (∀ x, spare = some x →
                let ends : JobEnds := .rows e.currentRow { e.home with row := x }
                accepted n 2 x (j.step.bind (·.held)) fun a =>
                  { taken n (fun _ => { e with phase := .copying x, cause := cause, lost := 0 }) a with
                    engine := { s.engine with job := some { j with
                      ends := ends
                      p := 0
                      lost := 0
                      step := j.step.map LineStep.dropped } } })
              ∧ (spare = none → j.step = none → refused { s with
                slots := s.slots.set n (left e.lost)
                engine := { s.engine with mode := .idle, job := none } } none 6 .noSpare)
              ∧ ∀ st, spare = none → j.step = some st →
                let counted : Nat := if st.lost = true then 1 else 0
                refused { s with
                  slots := s.slots.set n (left (e.lost - counted))
                  engine := { s.engine with job := some { j with
                    step := some st.dropped
                    lost := j.lost - counted
                    closed := true } } } st.held 6 .noSpare))

/-- RETIRE_ROW with NO_COPY (R94), its conditions in their order: BAD_ARG, NOT_CLOSED, BUSY, ALREADY and STATE; then the
row of an ACTIVE entry goes to a new spare at once, and a row of no entry takes the lowest-numbered FREE slot as ACTIVE
at its spare, or either is refused. RETIRE_ROW itself answers BAD_ARG to a flag byte above 1 (R93). -/
def Obligations.RowsAreRetiredWithoutCopy : Prop :=
  (∀ (rank bank flag : Byte) (row : BitVec 16) (s : State), s.resetN = false →
      (3 < rank.toNat ∨ 15 < bank.toNat → exec (.retireRowNoCopy rank bank row) s = .next (s.answering 0x04 []))
        ∧ (3 < rank.toNat ∨ 15 < bank.toNat ∨ 1 < flag.toNat →
          exec (.retireRow rank bank row flag) s = .next (s.answering 0x04 [])))
    ∧ ∀ (r : PhysRow) (s : State), s.resetN = false →
      let c : Instr := .retireRowNoCopy (BitVec.ofNat 8 r.rank.val) (BitVec.ofNat 8 r.bank.val)
        (BitVec.ofNat 16 r.row.val)
      let spared : Prop := ∃ i patrol, decodeRow s.active r = .region i .spared patrol
      let spare : Option RowNo := spareAt s.active r.rank s.cursors[cursorIx r.rank r.bank]
      let accepted (i : SlotIx) (e : SlotEntry) (action : Byte) (x : RowNo) : State :=
        { s.answering 0x00 ([BitVec.ofNat 8 i.val, action] ++ be16 x.val) with
          slots := s.slots.set i (some e)
          cursors := s.cursors.set (cursorIx r.rank r.bank) (s.cursors[cursorIx r.rank r.bank] + 1)
          log := s.log.offer (.retireStarted i r e.cause)
          tracker := s.tracker.filter fun e => decide (e.row ≠ r) }
      let noHome : Prop := ∀ n : SlotIx, ∀ e ∈ s.slots[n], e.home = r → e.currentRow = r
      (s.front.admission = .opened → exec c s = .next (s.refusing 8))
        ∧ (s.front.admission = .closed → s.front.tracker ≠ [] ∨ s.front.queue ≠ [] →
          exec c s = .next (s.answering 0x05 []))
        ∧ (s.front.admission = .closed → s.front.tracker = [] → s.front.queue = [] →
          (∀ n : SlotIx, ∀ e ∈ s.slots[n], e.home = r → e.currentRow ≠ r → exec c s = .next (s.refusing 7))
            ∧ (noHome → ∀ n : SlotIx, ∀ e ∈ s.slots[n], e.currentRow = r ∨ e.nextRow = some r →
              (∀ m : SlotIx, ∀ f ∈ s.slots[m], f.currentRow = r ∨ f.nextRow = some r → m = n) →
              (e.phase ≠ .active → exec c s = .next (s.refusing 9))
                ∧ (e.phase = .active → spare = none → exec c s = .next (s.refusing 6))
                ∧ (e.phase = .active → ∀ x, spare = some x → exec c s = .next (accepted n
                  { e with current := x, cause := .targetFailed, lost := 0 } 1 x)))
            ∧ (s.rowApart r →
              (¬ spared → exec c s = .next (s.refusing 4))
                ∧ (spared → (∀ n : SlotIx, s.slots[n] ≠ none) → exec c s = .next (s.refusing 5))
                ∧ (spared → ∀ i : SlotIx, s.lowestFree i →
                  (spare = none → exec c s = .next (s.refusing 6))
                    ∧ ∀ x, spare = some x → exec c s = .next (accepted i
                      { home := r, current := x, phase := .active, cause := .management, lost := 0 } 0 x))))

/-- RELEASE_SLOT in its order of checks (R95), READ_SLOT and READ_CURSOR (R96, section 11.6). -/
def Obligations.SlotCommandsAnswer : Prop :=
  ∀ (number rank bank : Byte) (s : State), s.resetN = false →
    let bad : State := s.answering 0x04 []
    (63 < number.toNat →
        exec (.releaseSlot number) s = .next bad ∧ exec (.readSlot number) s = .next bad)
      ∧ (∀ i : SlotIx, i.val = number.toNat →
        (s.front.admission = .opened → exec (.releaseSlot number) s = .next (s.refusing 8))
          ∧ (s.front.admission = .closed → s.front.tracker ≠ [] ∨ s.front.queue ≠ [] →
            exec (.releaseSlot number) s = .next (s.answering 0x05 []))
          ∧ (s.front.admission = .closed → s.front.tracker = [] → s.front.queue = [] →
            ((∃ e, s.slots[i] = some e ∧ e.phase = .active) →
                exec (.releaseSlot number) s = .next { s.answering 0x00 [] with slots := s.slots.set i none })
              ∧ (¬ (∃ e, s.slots[i] = some e ∧ e.phase = .active) →
                exec (.releaseSlot number) s = .next (s.refusing 9)))
          ∧ (s.slots[i] = none → exec (.readSlot number) s = .next (s.answering 0x00 [0]))
          ∧ ∀ e p, s.slots[i] = some e → s.windowIs (.rowMove i) p (s.windowStepping (.rowMove i)) →
            let record (code present : Byte) (next pointer : Nat) : List Byte :=
              [code, BitVec.ofNat 8 e.home.rank.val, BitVec.ofNat 8 e.home.bank.val] ++ be16 e.home.row.val
                ++ be16 e.current.val ++ [present] ++ be16 next
                ++ [match e.cause with
                    | .threshold => 0
                    | .uncorrectable => 1
                    | .management => 2
                    | .targetFailed => 3,
                  BitVec.ofNat 8 e.lost, BitVec.ofNat 8 pointer]
            exec (.readSlot number) s = .next (s.answering 0x00 (match e.phase with
              | .pending n => record 1 1 n.val 0
              | .copying n => record 2 1 n.val p
              | .active => record 3 0 0 0)))
      ∧ (3 < rank.toNat ∨ 15 < bank.toNat → exec (.readCursor rank bank) s = .next bad)
      ∧ ∀ (k : RankNo) (b : BankNo), k.val = rank.toNat → b.val = bank.toNat →
        let cursor := s.cursors[cursorIx k b]
        exec (.readCursor rank bank) s = .next (s.answering 0x00 (be32 cursor ++ be32 (spareCount s.active k)
          ++ match spareAt s.active k cursor with
            | some r => 1 :: be16 r.val
            | none => [0, 0, 0]))

/-! ### Mirrors (chapter 7) -/

/-- FAIL_SIDE and RESYNC_REGION by the mirror state (R120, R121): the RESYNC of a side that is failed while it waits in
the queue is removed, and in progress it is closed, dropped at once with no step in flight and else once its discarded
step ends, whose held entry is released (R107, R113). READ_MIRROR answers the record and the job's status, pointer, length
and lines lost (R126, section 11.6): that a RESYNC that was closed is not reported is the model's reading (log entry
17), as is the count a discarded step takes back (28). -/
def Obligations.MirrorCommandsAnswer : Prop :=
  ∀ (index side : Byte) (s : State), s.resetN = false →
    let bad : State := s.answering 0x04 []
    (7 < index.toNat ∨ 1 < side.toNat → exec (.failSide index side) s = .next bad)
      ∧ (7 < index.toNat →
        exec (.resyncRegion index) s = .next bad ∧ exec (.readMirror index) s = .next bad)
      ∧ ∀ i : RegionIx, i.val = index.toNat →
        let mine (j : Job) : Prop := s.engine.job = some j ∧ j.ref = .resync i ∧ j.closed = false
        let idle : Prop := ∀ j, ¬ mine j
        let reads (three : List Byte) : Prop :=
          let answers (job : List Byte) : Prop := exec (.readMirror index) s = .next (s.answering 0x00 (three ++ job))
          (idle → .resync i ∉ s.engine.queue → answers (List.replicate 13 0))
            ∧ (idle → .resync i ∈ s.engine.queue → answers (1 :: List.replicate 12 0))
            ∧ ∀ j, mine j →
              answers ((if s.engine.mode = .paused then 3 else 2) :: (be32 j.p ++ be32 j.length ++ be32 j.lost))
        (s.mirrors[i] = none → reads [0, 0, 0])
          ∧ (s.mirrors[i] = none → side.toNat ≤ 1 →
            exec (.failSide index side) s = .next (s.refusing 9)
              ∧ exec (.resyncRegion index) s = .next (s.refusing 9))
          ∧ ∀ m ∈ s.mirrors[i],
            let x : Side := if side = 0 then .primary else .shadow
            let failed (code : Byte) (state : MirrorState) (e : Engine) (held : Option LineAddr) : Prop :=
              ∃ u : State, exec (.failSide index side) s = .next u
                ∧ State.released { s.answering 0x00 [code] with
                  mirrors := s.mirrors.set i (some { m with state := state })
                  engine := e
                  log := s.log.offer (.mirrorSideFailed i x .management) } held u
            let rebuilt (code : Byte) (state : MirrorState) : Prop :=
              exec (.resyncRegion index) s = .next { s.answering 0x00 [code] with
                mirrors := s.mirrors.set i (some { m with state := state })
                engine := { s.engine with queue := s.engine.queue ++ [.resync i] } }
            let refuses (c : Instr) (reason : Byte) : Prop := exec c s = .next (s.refusing reason)
            let unqueued : Engine := { s.engine with queue := s.engine.queue.erase (.resync i) }
            let stopped (code : Byte) (state : MirrorState) : Prop :=
              (idle → failed code state unqueued none)
                ∧ ∀ j : Job, mine j →
                  (j.step = none → failed code state { unqueued with mode := .idle, job := none } none)
                    ∧ ∀ st, j.step = some st →
                      let counted : Nat := if st.lost = true then 1 else 0
                      failed code state { unqueued with job := some { j with
                        step := some st.dropped
                        lost := j.lost - counted
                        closed := true } } st.held
            reads [match m.state with
                    | .duplex => 1
                    | .simplexPrimary => 2
                    | .simplexShadow => 3
                    | .rebuildShadow => 4
                    | .rebuildPrimary => 5,
                  BitVec.ofNat 8 m.primaryCount, BitVec.ofNat 8 m.shadowCount]
              ∧ (side.toNat ≤ 1 → match m.state with
                | .duplex =>
                  (.resync i ∉ s.engine.queue → idle →
                      failed (if side = 0 then 3 else 2) (if side = 0 then .simplexShadow else .simplexPrimary) s.engine
                        none)
                    ∧ refuses (.resyncRegion index) 9
                | .simplexPrimary =>
                  refuses (.failSide index side) (if side = 0 then 9 else 7) ∧ rebuilt 4 .rebuildShadow
                | .simplexShadow =>
                  refuses (.failSide index side) (if side = 0 then 7 else 9) ∧ rebuilt 5 .rebuildPrimary
                | .rebuildShadow =>
                  (side = 0 → refuses (.failSide index side) 9) ∧ (side = 1 → stopped 2 .simplexPrimary)
                    ∧ refuses (.resyncRegion index) 7
                | .rebuildPrimary =>
                  (side = 1 → refuses (.failSide index side) 9) ∧ (side = 0 → stopped 3 .simplexShadow)
                    ∧ refuses (.resyncRegion index) 7)

/-- A side-count report (R117, R118): the side's count rises by 1, up to 4. In DUPLEX the report that brings it to 4
fails the side: SIMPLEX of the other side, both counts kept, MIRROR_SIDE_FAILED offered. A report for an index without
a record changes nothing, nor does one from a read of an earlier record (R31; log entry 8). -/
def Obligations.SideCountsFailASide : Prop :=
  ∀ (i : RegionIx) (x : Side) (born : Nat) (s : State),
    (s.mirrors[i] = none → s.sideReport i x born = s)
      ∧ ∀ m ∈ s.mirrors[i],
        let up (n : Nat) : Nat := if n < 4 then n + 1 else 4
        let raised : MirrorRecord :=
          { m with
            primaryCount := if x = .primary then up m.primaryCount else m.primaryCount
            shadowCount := if x = .shadow then up m.shadowCount else m.shadowCount }
        let count : Nat := if x = .primary then m.primaryCount else m.shadowCount
        (m.born ≠ born → s.sideReport i x born = s)
          ∧ (m.born = born → m.state ≠ .duplex ∨ count ≠ 3 →
            s.sideReport i x born = { s with mirrors := s.mirrors.set i (some raised) })
          ∧ (m.born = born → m.state = .duplex → count = 3 →
            s.sideReport i x born = { s with
              mirrors := s.mirrors.set i (some { raised with
                state := if x = .primary then .simplexShadow else .simplexPrimary })
              log := s.log.offer (.mirrorSideFailed i x .threshold) })

/-! ### The event log (chapter 10) -/

/-- POP_EVENT, PEEK_EVENT and SET_ALERT_MASK (R156, R157, R158, R159), over the event records of section 11.6. EMPTY on an
empty log; otherwise the oldest record, with the records held and the lost count after the command. A pop removes the
record and, with events lost, appends LOG_LOST with their count and clears it. SET_ALERT_MASK replaces the mask, or answers
BAD_ARG to a flag outside the twelve kinds and leaves it. ALERT_N is judged afresh by each. -/
def Obligations.EventsAreReadAndMasked : Prop :=
  ∀ (mask : BitVec 16) (s : State), s.resetN = false →
    let byte (n : Nat) : Byte := BitVec.ofNat 8 n
    let two (n : Nat) : List Byte := [byte (n / 256), byte n]
    let row (r : PhysRow) : List Byte := [byte r.rank.val, byte r.bank.val] ++ two r.row.val
    let line (l : Loc) : List Byte := [byte l.rank.val, byte l.bank.val] ++ two l.row.val ++ [byte l.col.val]
    let side (x : Side) : Byte := if x = .primary then 0 else 1
    let kind (e : Event) : Nat × List Byte :=
      match e with
      | .resetSeen warm => (1, [if warm then 1 else 0])
      | .uncorrectable source l => (2, (match source with
          | .hostRead => 0
          | .mergeRead => 1
          | .patrol => 2
          | .copy => 3
          | .resync => 4) :: line l)
      | .retireStarted slot r cause => (3, byte slot.val :: row r ++ [match cause with
          | .threshold => 0
          | .uncorrectable => 1
          | .management => 2
          | .targetFailed => 3])
      | .retireRefused r why => (4, row r ++ [match why with
          | .notSpared => 4
          | .tableFull => 5
          | .noSpare => 6
          | .already => 7])
      | .moveDone slot lost => (5, [byte slot.val, byte lost])
      | .mirrorRepaired i x l => (6, byte i.val :: side x :: line l)
      | .mirrorSideFailed i x cause => (7, [byte i.val, side x, if cause = .threshold then 0 else 2])
      | .resyncDone i lost => (8, byte i.val :: two (lost / 65536) ++ two lost)
      | .requestRefused tag why l => (9, byte tag.val :: (match why with
          | .noCredit => 1
          | .tagInUse => 2
          | .badMask => 3
          | .pool => 4
          | .shadow => 5
          | .closedRegion => 6
          | .closed | .quiescing => 0) :: line l)
      | .refreshLate k => (10, [byte k.val])
      | .patrolPass n => (11, two n.toNat)
      | .logLost n => (12, two n)
    let record (r : EventRecord) : List Byte :=
      (two r.seq.toNat ++ byte (kind r.event).1 :: (kind r.event).2 ++ List.replicate 9 0).take 12
    let alert (m : BitVec 16) (held : List EventRecord) : Bool := held.any fun r => m.getLsbD ((kind r.event).1 - 1)
    (s.log.records = [] →
        exec .peekEvent s = .next (s.answering 0x07 []) ∧ exec .popEvent s = .next (s.answering 0x07 []))
      ∧ (∀ (r : EventRecord) (rest : List EventRecord), s.log.records = r :: rest →
        let held : List EventRecord :=
          if s.log.lost = 0 then rest else rest ++ [{ seq := s.log.nextSeq, event := .logLost s.log.lost }]
        let popped : EventLog :=
          { records := held
            nextSeq := if s.log.lost = 0 then s.log.nextSeq else s.log.nextSeq + 1
            lost := 0
            mask := s.log.mask
            alert := alert s.log.mask held }
        exec .peekEvent s = .next (s.answering 0x00 (byte s.log.records.length :: two s.log.lost ++ record r))
          ∧ exec .popEvent s = .next { s.answering 0x00 (byte held.length :: two 0 ++ record r) with log := popped })
      ∧ if (∃ n : Fin 16, 12 ≤ n.val ∧ mask.getLsbD n.val = true) then
          exec (.setAlertMask mask) s = .next (s.answering 0x04 [])
        else
          exec (.setAlertMask mask) s = .next { s.answering 0x00 [] with log := { s.log with
            mask := mask
            alert := alert mask s.log.records } }

/-- Every step keeps the log at 32 records or fewer with consecutive sequence numbers, events lost only while it is
full, and ALERT_N as R158 judges it; an event offered is stored with the next number while there is room, and lost and
counted otherwise (R154, R155, R156, R158). -/
def Obligations.EventLogStaysSound : Prop :=
  (∀ s t : State, s.log.Sound → step s = .next t → t.log.Sound)
    ∧ ∀ (l : EventLog) (e : Event), l.Sound →
      (l.records.length < 32 →
          (l.offer e).records = l.records ++ [{ seq := l.nextSeq, event := e }] ∧ (l.offer e).nextSeq = l.nextSeq + 1
            ∧ (l.offer e).lost = l.lost ∧ (l.offer e).mask = l.mask)
        ∧ (l.records.length = 32 → l.offer e = { l with lost := min 65535 (l.lost + 1) })

/-! ### Status, counters, patrol interval and tracker (R128, R140, R168, section 11.6) -/

/-- GET_STATUS and GET_COUNTERS answer with the pages and groups of section 11.6, CLEAR_COUNTERS sets the 30 counters to
0, SET_PATROL stores the interval, and READ_TRACKER answers the entry at a position, each leaving everything else. When
the patrol timer next expires is left out of the model (log entry 11), and that page 1 answers the record of a job that
was closed until its discarded step ends is the model's reading (log entry 17). -/
def Obligations.PortReportsTheState : Prop :=
  ∀ (page group position : Byte) (interval : BitVec 16) (s : State), s.resetN = false →
    let bit (b : Bool) : Byte := if b then 1 else 0
    let byte (n : Nat) : Byte := BitVec.ofNat 8 n
    let bad : State := s.answering 0x04 []
    let long (c : BitVec 32) : List Byte :=
      [c.extractLsb' 24 8, c.extractLsb' 16 8, c.extractLsb' 8 8, c.extractLsb' 0 8]
    let rank (k : RankNo) : List Byte :=
      [match (s.ranks[k]).state with
        | .initializing => 0
        | .operating => 1
        | .selfRefresh => 2,
       byte (s.ranks[k]).debt, byte (s.ranks[k]).moveWait]
    let outcomes (k : RankNo) : List Byte :=
      long (s.counters.outcomes[k]).corrected ++ long (s.counters.outcomes[k]).uncorrectable
        ++ long (s.counters.outcomes[k]).poison
    let f := s.front
    let c := s.counters
    (page = 0 → exec (.getStatus page) s = .next (s.answering 0x00
        ([bit (decide (f.admission = .opened)), bit f.creditsStarted, byte f.readBalance, byte f.writeBalance,
          byte f.readOwed, byte f.writeOwed, byte f.tracker.length, byte f.queue.length,
          match s.quiesce with
            | .init => 0
            | .run => 1
            | .draining => 2
            | .entering => 3
            | .asleep => 4
            | .waking => 5,
          bit s.qreq, bit s.qack] ++ rank 0 ++ rank 1 ++ rank 2 ++ rank 3)))
      ∧ (page = 1 → exec (.getStatus page) s = .next (s.answering 0x00
        ([match s.engine.mode with
            | .idle => 0
            | .running => 1
            | .paused => 2,
          byte s.engine.queue.length]
          ++ (match s.engine.job with
            | none => List.replicate 10 0
            | some j => (match j.ref with
              | .rowMove i => [1, byte i.val]
              | .resync i => [2, byte i.val]) ++ be32 j.p ++ be32 j.length)
          ++ [s.patrol.interval.extractLsb' 8 8, s.patrol.interval.extractLsb' 0 8]
          ++ (match s.patrol.cursor with
            | none => [1, 0, 0, 0, 0, 0]
            | some (i, q) => [0, byte i.val] ++ be32 q)
          ++ [s.patrol.pass.extractLsb' 8 8, s.patrol.pass.extractLsb' 0 8, bit s.patrol.step.isSome,
            byte s.tracker.length])))
      ∧ (page = 2 → exec (.getStatus page) s = .next (s.answering 0x00
        ([s.log.nextSeq.extractLsb' 8 8, s.log.nextSeq.extractLsb' 0 8, byte s.log.records.length]
          ++ be16 s.log.lost
          ++ [s.log.mask.extractLsb' 8 8, s.log.mask.extractLsb' 0 8, bit s.log.alert])))
      ∧ (2 < page.toNat → exec (.getStatus page) s = .next bad)
      ∧ (group = 0 → exec (.getCounters group) s = .next (s.answering 0x00 (outcomes 0 ++ outcomes 1)))
      ∧ (group = 1 → exec (.getCounters group) s = .next (s.answering 0x00 (outcomes 2 ++ outcomes 3)))
      ∧ (group = 2 → exec (.getCounters group) s = .next (s.answering 0x00
        (long c.noCredit ++ long c.tagInUse ++ long c.badMask ++ long c.pool ++ long c.shadow ++ long c.closedRegion)))
      ∧ (group = 3 → exec (.getCounters group) s = .next (s.answering 0x00
        (long c.failoverReads ++ long c.repairsWritten ++ long c.repairsSuperseded ++ long c.repairsDropped)))
      ∧ (group = 4 → exec (.getCounters group) s = .next (s.answering 0x00
        (long c.passes ++ long c.skippedExpiries ++ long c.scrubWrites ++ long c.scrubsSuperseded)))
      ∧ (group = 5 → exec (.getCounters group) s = .next (s.answering 0x00
        (long c.refreshLate[(0 : RankNo)] ++ long c.refreshLate[(1 : RankNo)] ++ long c.refreshLate[(2 : RankNo)]
          ++ long c.refreshLate[(3 : RankNo)])))
      ∧ (5 < group.toNat → exec (.getCounters group) s = .next bad)
      ∧ exec .clearCounters s = .next { s.answering 0x00 [] with counters :=
          { outcomes := Vector.replicate 4 { corrected := 0, uncorrectable := 0, poison := 0 },
            noCredit := 0, tagInUse := 0, badMask := 0, pool := 0, shadow := 0, closedRegion := 0,
            failoverReads := 0, repairsWritten := 0, repairsSuperseded := 0, repairsDropped := 0,
            passes := 0, skippedExpiries := 0, scrubWrites := 0, scrubsSuperseded := 0,
            refreshLate := Vector.replicate 4 0 } }
      ∧ exec (.setPatrol interval) s = .next { s.answering 0x00 [] with
        patrol := { s.patrol with interval := interval } }
      ∧ (31 < position.toNat → exec (.readTracker position) s = .next bad)
      ∧ (position.toNat ≤ 31 →
        (∀ e, s.tracker[position.toNat]? = some e →
            exec (.readTracker position) s = .next (s.answering 0x00
              ([byte s.tracker.length, 1, byte e.row.rank.val, byte e.row.bank.val] ++ be16 e.row.row.val
                ++ [byte e.region.val, byte e.count])))
          ∧ (s.tracker[position.toNat]? = none →
            exec (.readTracker position) s = .next (s.answering 0x00 [byte s.tracker.length, 0, 0, 0, 0, 0, 0, 0])))
end

