-- ==== Sys2Proof/Laws/EventLog.lean ====
section
/-! SUPPORT. What an offer and a pop do to the event log (R155, R156, R158). -/

namespace Sys2Proof.Machine

@[simp] theorem EventLog.judged_records (l : EventLog) : l.judged.records = l.records := rfl
@[simp] theorem EventLog.judged_nextSeq (l : EventLog) : l.judged.nextSeq = l.nextSeq := rfl
@[simp] theorem EventLog.judged_lost (l : EventLog) : l.judged.lost = l.lost := rfl
@[simp] theorem EventLog.judged_mask (l : EventLog) : l.judged.mask = l.mask := rfl
@[simp] theorem EventLog.judged_alert (l : EventLog) : l.judged.alert = alertCondition l.mask l.records := rfl

/-- With room, an offer is a record at the tail and ALERT_N judged afresh. -/
theorem EventLog.offer_room (l : EventLog) (e : Event) (h : l.records.length < 32) :
    l.offer e =
      { records := l.records ++ [{ seq := l.nextSeq, event := e }]
        nextSeq := l.nextSeq + 1
        lost := l.lost
        mask := l.mask
        alert := alertCondition l.mask (l.records ++ [{ seq := l.nextSeq, event := e }]) } := by
  simp [EventLog.offer, Config.logSize, h, EventLog.append, EventLog.judged]

/-- Without room, an offer is a loss counted. -/
theorem EventLog.offer_full (l : EventLog) (e : Event) (h : ¬ l.records.length < 32) :
    l.offer e = { l with lost := min 65535 (l.lost + 1) } := by
  simp [EventLog.offer, Config.logSize, h]

/-- The mask is no business of an offer. -/
@[simp] theorem EventLog.offer_mask (l : EventLog) (e : Event) : (l.offer e).mask = l.mask := by
  simp only [EventLog.offer]
  split <;> rfl

/-- A pop with nothing lost takes the oldest record away. -/
theorem EventLog.pop_none_lost (l : EventLog) (h : l.lost = 0) :
    l.pop = { l with records := l.records.tail, alert := alertCondition l.mask l.records.tail } := by
  simp [EventLog.pop, h, EventLog.judged]

/-- A pop with events lost puts LOG_LOST in the place freed. -/
theorem EventLog.pop_some_lost (l : EventLog) (h : l.lost ≠ 0) :
    l.pop =
      { records := l.records.tail ++ [{ seq := l.nextSeq, event := .logLost l.lost }]
        nextSeq := l.nextSeq + 1
        lost := 0
        mask := l.mask
        alert := alertCondition l.mask (l.records.tail ++ [{ seq := l.nextSeq, event := .logLost l.lost }]) } := by
  simp [EventLog.pop, h, EventLog.judged, EventLog.append]

end Sys2Proof.Machine
end

