-- ==== Sys2Proof/Laws/Lists.lean ====
section
/-! SUPPORT. The list operations of the model on a list given as what stands before an element, the element, and what
stands after it. -/

namespace Sys2Proof.Machine

theorem replaceFirst_split {α : Type} (test : α → Bool) (f : α → α) (l r : List α) (x : α)
    (before : ∀ y ∈ l, test y = false) (here : test x = true) :
    replaceFirst test f (l ++ x :: r) = l ++ f x :: r := by
  induction l with
  | nil => simp [replaceFirst, here]
  | cons a l ih => simp [replaceFirst, before a (by simp), ih fun y hy => before y (by simp [hy])]

theorem replaceFirst_none {α : Type} (test : α → Bool) (f : α → α) (l : List α) (all : ∀ y ∈ l, test y = false) :
    replaceFirst test f l = l := by
  induction l with
  | nil => rfl
  | cons a l ih => simp [replaceFirst, all a (by simp), ih fun y hy => all y (by simp [hy])]

theorem replaceFirst_length {α : Type} (test : α → Bool) (f : α → α) (l : List α) :
    (replaceFirst test f l).length = l.length := by
  induction l with
  | nil => rfl
  | cons a l ih =>
    simp only [replaceFirst]
    split
    · rfl
    · simp [ih]

theorem find_split {α : Type} (test : α → Bool) (l r : List α) (x : α) (before : ∀ y ∈ l, test y = false)
    (here : test x = true) : (l ++ x :: r).find? test = some x := by
  rw [List.find?_append, List.find?_eq_none.2]
  · simp [here]
  · intro y hy
    simp [before y hy]

theorem eraseP_split {α : Type} (test : α → Bool) (l r : List α) (x : α) (before : ∀ y ∈ l, test y = false)
    (here : test x = true) : (l ++ x :: r).eraseP test = l ++ r := by
  rw [List.eraseP_append_right]
  · simp [here]
  · intro y hy
    simp [before y hy]

/-- An element of a fixed-length collection that is mapped. -/
@[simp] theorem mapV_getElem {α β : Type} {n : Nat} (f : α → β) (v : Vector α n) (i : Nat) (h : i < n) :
    (mapV f v)[i] = f v[i] := by
  simp [mapV, Vector.getElem_mk]

end Sys2Proof.Machine
end

