-- ==== Sys2Proof/Laws/State.lean ====
section
/-! SUPPORT. What each record update of a shared operation leaves in each field of the state: one lemma for each field
and operation, true by unfolding. Proofs cite these instead of unfolding a record update. -/

namespace Sys2Proof.Machine

/-! ### State.storeForm -/

@[simp] theorem State.storeForm_front (s : State) (l : Loc) (f : LineForm) : (s.storeForm l f).front = s.front := rfl
@[simp] theorem State.storeForm_staged (s : State) (l : Loc) (f : LineForm) :
    (s.storeForm l f).staged = s.staged := rfl
@[simp] theorem State.storeForm_active (s : State) (l : Loc) (f : LineForm) :
    (s.storeForm l f).active = s.active := rfl
@[simp] theorem State.storeForm_slots (s : State) (l : Loc) (f : LineForm) : (s.storeForm l f).slots = s.slots := rfl
@[simp] theorem State.storeForm_cursors (s : State) (l : Loc) (f : LineForm) :
    (s.storeForm l f).cursors = s.cursors := rfl
@[simp] theorem State.storeForm_engine (s : State) (l : Loc) (f : LineForm) :
    (s.storeForm l f).engine = s.engine := rfl
@[simp] theorem State.storeForm_mirrors (s : State) (l : Loc) (f : LineForm) :
    (s.storeForm l f).mirrors = s.mirrors := rfl
@[simp] theorem State.storeForm_patrol (s : State) (l : Loc) (f : LineForm) :
    (s.storeForm l f).patrol = s.patrol := rfl
@[simp] theorem State.storeForm_tracker (s : State) (l : Loc) (f : LineForm) :
    (s.storeForm l f).tracker = s.tracker := rfl
@[simp] theorem State.storeForm_ranks (s : State) (l : Loc) (f : LineForm) : (s.storeForm l f).ranks = s.ranks := rfl
@[simp] theorem State.storeForm_quiesce (s : State) (l : Loc) (f : LineForm) :
    (s.storeForm l f).quiesce = s.quiesce := rfl
@[simp] theorem State.storeForm_qreq (s : State) (l : Loc) (f : LineForm) : (s.storeForm l f).qreq = s.qreq := rfl
@[simp] theorem State.storeForm_qack (s : State) (l : Loc) (f : LineForm) : (s.storeForm l f).qack = s.qack := rfl
@[simp] theorem State.storeForm_resetN (s : State) (l : Loc) (f : LineForm) :
    (s.storeForm l f).resetN = s.resetN := rfl
@[simp] theorem State.storeForm_counters (s : State) (l : Loc) (f : LineForm) :
    (s.storeForm l f).counters = s.counters := rfl
@[simp] theorem State.storeForm_log (s : State) (l : Loc) (f : LineForm) : (s.storeForm l f).log = s.log := rfl
@[simp] theorem State.storeForm_port (s : State) (l : Loc) (f : LineForm) : (s.storeForm l f).port = s.port := rfl
@[simp] theorem State.storeForm_store (s : State) (l : Loc) (f : LineForm) :
    (s.storeForm l f).store = s.store.write l.number (.intact f) := rfl
@[simp] theorem State.storeForm_powerCycles (s : State) (l : Loc) (f : LineForm) :
    (s.storeForm l f).powerCycles = s.powerCycles := rfl
@[simp] theorem State.storeForm_commits (s : State) (l : Loc) (f : LineForm) :
    (s.storeForm l f).commits = s.commits := rfl
@[simp] theorem State.storeForm_sent (s : State) (l : Loc) (f : LineForm) : (s.storeForm l f).sent = s.sent := rfl
@[simp] theorem State.storeForm_pending (s : State) (l : Loc) (f : LineForm) :
    (s.storeForm l f).pending = s.pending := rfl

/-! ### State.offer -/

@[simp] theorem State.offer_front (s : State) (e : Event) : (s.offer e).front = s.front := rfl
@[simp] theorem State.offer_staged (s : State) (e : Event) : (s.offer e).staged = s.staged := rfl
@[simp] theorem State.offer_active (s : State) (e : Event) : (s.offer e).active = s.active := rfl
@[simp] theorem State.offer_slots (s : State) (e : Event) : (s.offer e).slots = s.slots := rfl
@[simp] theorem State.offer_cursors (s : State) (e : Event) : (s.offer e).cursors = s.cursors := rfl
@[simp] theorem State.offer_engine (s : State) (e : Event) : (s.offer e).engine = s.engine := rfl
@[simp] theorem State.offer_mirrors (s : State) (e : Event) : (s.offer e).mirrors = s.mirrors := rfl
@[simp] theorem State.offer_patrol (s : State) (e : Event) : (s.offer e).patrol = s.patrol := rfl
@[simp] theorem State.offer_tracker (s : State) (e : Event) : (s.offer e).tracker = s.tracker := rfl
@[simp] theorem State.offer_ranks (s : State) (e : Event) : (s.offer e).ranks = s.ranks := rfl
@[simp] theorem State.offer_quiesce (s : State) (e : Event) : (s.offer e).quiesce = s.quiesce := rfl
@[simp] theorem State.offer_qreq (s : State) (e : Event) : (s.offer e).qreq = s.qreq := rfl
@[simp] theorem State.offer_qack (s : State) (e : Event) : (s.offer e).qack = s.qack := rfl
@[simp] theorem State.offer_resetN (s : State) (e : Event) : (s.offer e).resetN = s.resetN := rfl
@[simp] theorem State.offer_counters (s : State) (e : Event) : (s.offer e).counters = s.counters := rfl
@[simp] theorem State.offer_log (s : State) (e : Event) : (s.offer e).log = s.log.offer e := rfl
@[simp] theorem State.offer_port (s : State) (e : Event) : (s.offer e).port = s.port := rfl
@[simp] theorem State.offer_store (s : State) (e : Event) : (s.offer e).store = s.store := rfl
@[simp] theorem State.offer_powerCycles (s : State) (e : Event) : (s.offer e).powerCycles = s.powerCycles := rfl
@[simp] theorem State.offer_commits (s : State) (e : Event) : (s.offer e).commits = s.commits := rfl
@[simp] theorem State.offer_sent (s : State) (e : Event) : (s.offer e).sent = s.sent := rfl
@[simp] theorem State.offer_pending (s : State) (e : Event) : (s.offer e).pending = s.pending := rfl

/-! ### State.send -/

@[simp] theorem State.send_front (s : State) (m : HostMsg) : (s.send m).front = s.front := rfl
@[simp] theorem State.send_staged (s : State) (m : HostMsg) : (s.send m).staged = s.staged := rfl
@[simp] theorem State.send_active (s : State) (m : HostMsg) : (s.send m).active = s.active := rfl
@[simp] theorem State.send_slots (s : State) (m : HostMsg) : (s.send m).slots = s.slots := rfl
@[simp] theorem State.send_cursors (s : State) (m : HostMsg) : (s.send m).cursors = s.cursors := rfl
@[simp] theorem State.send_engine (s : State) (m : HostMsg) : (s.send m).engine = s.engine := rfl
@[simp] theorem State.send_mirrors (s : State) (m : HostMsg) : (s.send m).mirrors = s.mirrors := rfl
@[simp] theorem State.send_patrol (s : State) (m : HostMsg) : (s.send m).patrol = s.patrol := rfl
@[simp] theorem State.send_tracker (s : State) (m : HostMsg) : (s.send m).tracker = s.tracker := rfl
@[simp] theorem State.send_ranks (s : State) (m : HostMsg) : (s.send m).ranks = s.ranks := rfl
@[simp] theorem State.send_quiesce (s : State) (m : HostMsg) : (s.send m).quiesce = s.quiesce := rfl
@[simp] theorem State.send_qreq (s : State) (m : HostMsg) : (s.send m).qreq = s.qreq := rfl
@[simp] theorem State.send_qack (s : State) (m : HostMsg) : (s.send m).qack = s.qack := rfl
@[simp] theorem State.send_resetN (s : State) (m : HostMsg) : (s.send m).resetN = s.resetN := rfl
@[simp] theorem State.send_counters (s : State) (m : HostMsg) : (s.send m).counters = s.counters := rfl
@[simp] theorem State.send_log (s : State) (m : HostMsg) : (s.send m).log = s.log := rfl
@[simp] theorem State.send_port (s : State) (m : HostMsg) : (s.send m).port = s.port := rfl
@[simp] theorem State.send_store (s : State) (m : HostMsg) : (s.send m).store = s.store := rfl
@[simp] theorem State.send_powerCycles (s : State) (m : HostMsg) : (s.send m).powerCycles = s.powerCycles := rfl
@[simp] theorem State.send_commits (s : State) (m : HostMsg) : (s.send m).commits = s.commits := rfl
@[simp] theorem State.send_sent (s : State) (m : HostMsg) : (s.send m).sent = s.sent ++ [m] := rfl
@[simp] theorem State.send_pending (s : State) (m : HostMsg) : (s.send m).pending = s.pending := rfl

/-! ### State.respond -/

@[simp] theorem State.respond_front (s : State) (r : Result) (p : List Byte) : (s.respond r p).front = s.front := rfl
@[simp] theorem State.respond_staged (s : State) (r : Result) (p : List Byte) :
    (s.respond r p).staged = s.staged := rfl
@[simp] theorem State.respond_active (s : State) (r : Result) (p : List Byte) :
    (s.respond r p).active = s.active := rfl
@[simp] theorem State.respond_slots (s : State) (r : Result) (p : List Byte) : (s.respond r p).slots = s.slots := rfl
@[simp] theorem State.respond_cursors (s : State) (r : Result) (p : List Byte) :
    (s.respond r p).cursors = s.cursors := rfl
@[simp] theorem State.respond_engine (s : State) (r : Result) (p : List Byte) :
    (s.respond r p).engine = s.engine := rfl
@[simp] theorem State.respond_mirrors (s : State) (r : Result) (p : List Byte) :
    (s.respond r p).mirrors = s.mirrors := rfl
@[simp] theorem State.respond_patrol (s : State) (r : Result) (p : List Byte) :
    (s.respond r p).patrol = s.patrol := rfl
@[simp] theorem State.respond_tracker (s : State) (r : Result) (p : List Byte) :
    (s.respond r p).tracker = s.tracker := rfl
@[simp] theorem State.respond_ranks (s : State) (r : Result) (p : List Byte) : (s.respond r p).ranks = s.ranks := rfl
@[simp] theorem State.respond_quiesce (s : State) (r : Result) (p : List Byte) :
    (s.respond r p).quiesce = s.quiesce := rfl
@[simp] theorem State.respond_qreq (s : State) (r : Result) (p : List Byte) : (s.respond r p).qreq = s.qreq := rfl
@[simp] theorem State.respond_qack (s : State) (r : Result) (p : List Byte) : (s.respond r p).qack = s.qack := rfl
@[simp] theorem State.respond_resetN (s : State) (r : Result) (p : List Byte) :
    (s.respond r p).resetN = s.resetN := rfl
@[simp] theorem State.respond_counters (s : State) (r : Result) (p : List Byte) :
    (s.respond r p).counters = s.counters := rfl
@[simp] theorem State.respond_log (s : State) (r : Result) (p : List Byte) : (s.respond r p).log = s.log := rfl
@[simp] theorem State.respond_port (s : State) (r : Result) (p : List Byte) :
    (s.respond r p).port = { s.port with response := frameBytes r.code p } := rfl
@[simp] theorem State.respond_store (s : State) (r : Result) (p : List Byte) : (s.respond r p).store = s.store := rfl
@[simp] theorem State.respond_powerCycles (s : State) (r : Result) (p : List Byte) :
    (s.respond r p).powerCycles = s.powerCycles := rfl
@[simp] theorem State.respond_commits (s : State) (r : Result) (p : List Byte) :
    (s.respond r p).commits = s.commits := rfl
@[simp] theorem State.respond_sent (s : State) (r : Result) (p : List Byte) : (s.respond r p).sent = s.sent := rfl
@[simp] theorem State.respond_pending (s : State) (r : Result) (p : List Byte) :
    (s.respond r p).pending = s.pending := rfl

/-! ### State.onRank -/

@[simp] theorem State.onRank_front (s : State) (k : RankNo) (f : RankSched → RankSched) :
    (s.onRank k f).front = s.front := rfl
@[simp] theorem State.onRank_staged (s : State) (k : RankNo) (f : RankSched → RankSched) :
    (s.onRank k f).staged = s.staged := rfl
@[simp] theorem State.onRank_active (s : State) (k : RankNo) (f : RankSched → RankSched) :
    (s.onRank k f).active = s.active := rfl
@[simp] theorem State.onRank_slots (s : State) (k : RankNo) (f : RankSched → RankSched) :
    (s.onRank k f).slots = s.slots := rfl
@[simp] theorem State.onRank_cursors (s : State) (k : RankNo) (f : RankSched → RankSched) :
    (s.onRank k f).cursors = s.cursors := rfl
@[simp] theorem State.onRank_engine (s : State) (k : RankNo) (f : RankSched → RankSched) :
    (s.onRank k f).engine = s.engine := rfl
@[simp] theorem State.onRank_mirrors (s : State) (k : RankNo) (f : RankSched → RankSched) :
    (s.onRank k f).mirrors = s.mirrors := rfl
@[simp] theorem State.onRank_patrol (s : State) (k : RankNo) (f : RankSched → RankSched) :
    (s.onRank k f).patrol = s.patrol := rfl
@[simp] theorem State.onRank_tracker (s : State) (k : RankNo) (f : RankSched → RankSched) :
    (s.onRank k f).tracker = s.tracker := rfl
@[simp] theorem State.onRank_ranks (s : State) (k : RankNo) (f : RankSched → RankSched) :
    (s.onRank k f).ranks = s.ranks.set k (f s.ranks[k]) := rfl
@[simp] theorem State.onRank_quiesce (s : State) (k : RankNo) (f : RankSched → RankSched) :
    (s.onRank k f).quiesce = s.quiesce := rfl
@[simp] theorem State.onRank_qreq (s : State) (k : RankNo) (f : RankSched → RankSched) :
    (s.onRank k f).qreq = s.qreq := rfl
@[simp] theorem State.onRank_qack (s : State) (k : RankNo) (f : RankSched → RankSched) :
    (s.onRank k f).qack = s.qack := rfl
@[simp] theorem State.onRank_resetN (s : State) (k : RankNo) (f : RankSched → RankSched) :
    (s.onRank k f).resetN = s.resetN := rfl
@[simp] theorem State.onRank_counters (s : State) (k : RankNo) (f : RankSched → RankSched) :
    (s.onRank k f).counters = s.counters := rfl
@[simp] theorem State.onRank_log (s : State) (k : RankNo) (f : RankSched → RankSched) :
    (s.onRank k f).log = s.log := rfl
@[simp] theorem State.onRank_port (s : State) (k : RankNo) (f : RankSched → RankSched) :
    (s.onRank k f).port = s.port := rfl
@[simp] theorem State.onRank_store (s : State) (k : RankNo) (f : RankSched → RankSched) :
    (s.onRank k f).store = s.store := rfl
@[simp] theorem State.onRank_powerCycles (s : State) (k : RankNo) (f : RankSched → RankSched) :
    (s.onRank k f).powerCycles = s.powerCycles := rfl
@[simp] theorem State.onRank_commits (s : State) (k : RankNo) (f : RankSched → RankSched) :
    (s.onRank k f).commits = s.commits := rfl
@[simp] theorem State.onRank_sent (s : State) (k : RankNo) (f : RankSched → RankSched) :
    (s.onRank k f).sent = s.sent := rfl
@[simp] theorem State.onRank_pending (s : State) (k : RankNo) (f : RankSched → RankSched) :
    (s.onRank k f).pending = s.pending := rfl

/-! ### State.place -/

@[simp] theorem State.place_front (s : State) (o : LineOp) : (s.place o).front = s.front := rfl
@[simp] theorem State.place_staged (s : State) (o : LineOp) : (s.place o).staged = s.staged := rfl
@[simp] theorem State.place_active (s : State) (o : LineOp) : (s.place o).active = s.active := rfl
@[simp] theorem State.place_slots (s : State) (o : LineOp) : (s.place o).slots = s.slots := rfl
@[simp] theorem State.place_cursors (s : State) (o : LineOp) : (s.place o).cursors = s.cursors := rfl
@[simp] theorem State.place_engine (s : State) (o : LineOp) : (s.place o).engine = s.engine := rfl
@[simp] theorem State.place_mirrors (s : State) (o : LineOp) : (s.place o).mirrors = s.mirrors := rfl
@[simp] theorem State.place_patrol (s : State) (o : LineOp) : (s.place o).patrol = s.patrol := rfl
@[simp] theorem State.place_tracker (s : State) (o : LineOp) : (s.place o).tracker = s.tracker := rfl
@[simp] theorem State.place_ranks (s : State) (o : LineOp) :
    (s.place o).ranks =
      s.ranks.set o.loc.rank { s.ranks[o.loc.rank] with placed := (s.ranks[o.loc.rank]).placed ++ [o] } := rfl
@[simp] theorem State.place_quiesce (s : State) (o : LineOp) : (s.place o).quiesce = s.quiesce := rfl
@[simp] theorem State.place_qreq (s : State) (o : LineOp) : (s.place o).qreq = s.qreq := rfl
@[simp] theorem State.place_qack (s : State) (o : LineOp) : (s.place o).qack = s.qack := rfl
@[simp] theorem State.place_resetN (s : State) (o : LineOp) : (s.place o).resetN = s.resetN := rfl
@[simp] theorem State.place_counters (s : State) (o : LineOp) : (s.place o).counters = s.counters := rfl
@[simp] theorem State.place_log (s : State) (o : LineOp) : (s.place o).log = s.log := rfl
@[simp] theorem State.place_port (s : State) (o : LineOp) : (s.place o).port = s.port := rfl
@[simp] theorem State.place_store (s : State) (o : LineOp) : (s.place o).store = s.store := rfl
@[simp] theorem State.place_powerCycles (s : State) (o : LineOp) : (s.place o).powerCycles = s.powerCycles := rfl
@[simp] theorem State.place_commits (s : State) (o : LineOp) : (s.place o).commits = s.commits := rfl
@[simp] theorem State.place_sent (s : State) (o : LineOp) : (s.place o).sent = s.sent := rfl
@[simp] theorem State.place_pending (s : State) (o : LineOp) : (s.place o).pending = s.pending := rfl

/-! ### State.freeBank -/

@[simp] theorem State.freeBank_front (s : State) (k : RankNo) (b : BankNo) : (s.freeBank k b).front = s.front := rfl
@[simp] theorem State.freeBank_staged (s : State) (k : RankNo) (b : BankNo) :
    (s.freeBank k b).staged = s.staged := rfl
@[simp] theorem State.freeBank_active (s : State) (k : RankNo) (b : BankNo) :
    (s.freeBank k b).active = s.active := rfl
@[simp] theorem State.freeBank_slots (s : State) (k : RankNo) (b : BankNo) : (s.freeBank k b).slots = s.slots := rfl
@[simp] theorem State.freeBank_cursors (s : State) (k : RankNo) (b : BankNo) :
    (s.freeBank k b).cursors = s.cursors := rfl
@[simp] theorem State.freeBank_engine (s : State) (k : RankNo) (b : BankNo) :
    (s.freeBank k b).engine = s.engine := rfl
@[simp] theorem State.freeBank_mirrors (s : State) (k : RankNo) (b : BankNo) :
    (s.freeBank k b).mirrors = s.mirrors := rfl
@[simp] theorem State.freeBank_patrol (s : State) (k : RankNo) (b : BankNo) :
    (s.freeBank k b).patrol = s.patrol := rfl
@[simp] theorem State.freeBank_tracker (s : State) (k : RankNo) (b : BankNo) :
    (s.freeBank k b).tracker = s.tracker := rfl
@[simp] theorem State.freeBank_ranks (s : State) (k : RankNo) (b : BankNo) :
    (s.freeBank k b).ranks = s.ranks.set k { s.ranks[k] with banks := (s.ranks[k]).banks.set b none } := rfl
@[simp] theorem State.freeBank_quiesce (s : State) (k : RankNo) (b : BankNo) :
    (s.freeBank k b).quiesce = s.quiesce := rfl
@[simp] theorem State.freeBank_qreq (s : State) (k : RankNo) (b : BankNo) : (s.freeBank k b).qreq = s.qreq := rfl
@[simp] theorem State.freeBank_qack (s : State) (k : RankNo) (b : BankNo) : (s.freeBank k b).qack = s.qack := rfl
@[simp] theorem State.freeBank_resetN (s : State) (k : RankNo) (b : BankNo) :
    (s.freeBank k b).resetN = s.resetN := rfl
@[simp] theorem State.freeBank_counters (s : State) (k : RankNo) (b : BankNo) :
    (s.freeBank k b).counters = s.counters := rfl
@[simp] theorem State.freeBank_log (s : State) (k : RankNo) (b : BankNo) : (s.freeBank k b).log = s.log := rfl
@[simp] theorem State.freeBank_port (s : State) (k : RankNo) (b : BankNo) : (s.freeBank k b).port = s.port := rfl
@[simp] theorem State.freeBank_store (s : State) (k : RankNo) (b : BankNo) : (s.freeBank k b).store = s.store := rfl
@[simp] theorem State.freeBank_powerCycles (s : State) (k : RankNo) (b : BankNo) :
    (s.freeBank k b).powerCycles = s.powerCycles := rfl
@[simp] theorem State.freeBank_commits (s : State) (k : RankNo) (b : BankNo) :
    (s.freeBank k b).commits = s.commits := rfl
@[simp] theorem State.freeBank_sent (s : State) (k : RankNo) (b : BankNo) : (s.freeBank k b).sent = s.sent := rfl
@[simp] theorem State.freeBank_pending (s : State) (k : RankNo) (b : BankNo) :
    (s.freeBank k b).pending = s.pending := rfl

/-! ### State.notice -/

@[simp] theorem State.notice_front (s : State) (la : LineAddr) (p : Loc → Bool) :
    (s.notice la p).front = s.front := rfl
@[simp] theorem State.notice_staged (s : State) (la : LineAddr) (p : Loc → Bool) :
    (s.notice la p).staged = s.staged := rfl
@[simp] theorem State.notice_active (s : State) (la : LineAddr) (p : Loc → Bool) :
    (s.notice la p).active = s.active := rfl
@[simp] theorem State.notice_slots (s : State) (la : LineAddr) (p : Loc → Bool) :
    (s.notice la p).slots = s.slots := rfl
@[simp] theorem State.notice_cursors (s : State) (la : LineAddr) (p : Loc → Bool) :
    (s.notice la p).cursors = s.cursors := rfl
@[simp] theorem State.notice_engine (s : State) (la : LineAddr) (p : Loc → Bool) :
    (s.notice la p).engine = s.engine := rfl
@[simp] theorem State.notice_mirrors (s : State) (la : LineAddr) (p : Loc → Bool) :
    (s.notice la p).mirrors = s.mirrors := rfl
@[simp] theorem State.notice_patrol (s : State) (la : LineAddr) (p : Loc → Bool) :
    (s.notice la p).patrol = { s.patrol with step := s.patrol.step.map (PatrolStep.noticed la p) } := rfl
@[simp] theorem State.notice_tracker (s : State) (la : LineAddr) (p : Loc → Bool) :
    (s.notice la p).tracker = s.tracker := rfl
@[simp] theorem State.notice_ranks (s : State) (la : LineAddr) (p : Loc → Bool) :
    (s.notice la p).ranks = mapV (RankSched.noticed la p) s.ranks := rfl
@[simp] theorem State.notice_quiesce (s : State) (la : LineAddr) (p : Loc → Bool) :
    (s.notice la p).quiesce = s.quiesce := rfl
@[simp] theorem State.notice_qreq (s : State) (la : LineAddr) (p : Loc → Bool) : (s.notice la p).qreq = s.qreq := rfl
@[simp] theorem State.notice_qack (s : State) (la : LineAddr) (p : Loc → Bool) : (s.notice la p).qack = s.qack := rfl
@[simp] theorem State.notice_resetN (s : State) (la : LineAddr) (p : Loc → Bool) :
    (s.notice la p).resetN = s.resetN := rfl
@[simp] theorem State.notice_counters (s : State) (la : LineAddr) (p : Loc → Bool) :
    (s.notice la p).counters = s.counters := rfl
@[simp] theorem State.notice_log (s : State) (la : LineAddr) (p : Loc → Bool) : (s.notice la p).log = s.log := rfl
@[simp] theorem State.notice_port (s : State) (la : LineAddr) (p : Loc → Bool) : (s.notice la p).port = s.port := rfl
@[simp] theorem State.notice_store (s : State) (la : LineAddr) (p : Loc → Bool) :
    (s.notice la p).store = s.store := rfl
@[simp] theorem State.notice_powerCycles (s : State) (la : LineAddr) (p : Loc → Bool) :
    (s.notice la p).powerCycles = s.powerCycles := rfl
@[simp] theorem State.notice_commits (s : State) (la : LineAddr) (p : Loc → Bool) :
    (s.notice la p).commits = s.commits := rfl
@[simp] theorem State.notice_sent (s : State) (la : LineAddr) (p : Loc → Bool) : (s.notice la p).sent = s.sent := rfl
@[simp] theorem State.notice_pending (s : State) (la : LineAddr) (p : Loc → Bool) :
    (s.notice la p).pending = s.pending := rfl

/-! ### State.setSlot -/

@[simp] theorem State.setSlot_front (s : State) (i : SlotIx) (e : Option SlotEntry) :
    (s.setSlot i e).front = s.front := rfl
@[simp] theorem State.setSlot_staged (s : State) (i : SlotIx) (e : Option SlotEntry) :
    (s.setSlot i e).staged = s.staged := rfl
@[simp] theorem State.setSlot_active (s : State) (i : SlotIx) (e : Option SlotEntry) :
    (s.setSlot i e).active = s.active := rfl
@[simp] theorem State.setSlot_slots (s : State) (i : SlotIx) (e : Option SlotEntry) :
    (s.setSlot i e).slots = s.slots.set i e := rfl
@[simp] theorem State.setSlot_cursors (s : State) (i : SlotIx) (e : Option SlotEntry) :
    (s.setSlot i e).cursors = s.cursors := rfl
@[simp] theorem State.setSlot_engine (s : State) (i : SlotIx) (e : Option SlotEntry) :
    (s.setSlot i e).engine = s.engine := rfl
@[simp] theorem State.setSlot_mirrors (s : State) (i : SlotIx) (e : Option SlotEntry) :
    (s.setSlot i e).mirrors = s.mirrors := rfl
@[simp] theorem State.setSlot_patrol (s : State) (i : SlotIx) (e : Option SlotEntry) :
    (s.setSlot i e).patrol = s.patrol := rfl
@[simp] theorem State.setSlot_tracker (s : State) (i : SlotIx) (e : Option SlotEntry) :
    (s.setSlot i e).tracker = s.tracker := rfl
@[simp] theorem State.setSlot_ranks (s : State) (i : SlotIx) (e : Option SlotEntry) :
    (s.setSlot i e).ranks = s.ranks := rfl
@[simp] theorem State.setSlot_quiesce (s : State) (i : SlotIx) (e : Option SlotEntry) :
    (s.setSlot i e).quiesce = s.quiesce := rfl
@[simp] theorem State.setSlot_qreq (s : State) (i : SlotIx) (e : Option SlotEntry) :
    (s.setSlot i e).qreq = s.qreq := rfl
@[simp] theorem State.setSlot_qack (s : State) (i : SlotIx) (e : Option SlotEntry) :
    (s.setSlot i e).qack = s.qack := rfl
@[simp] theorem State.setSlot_resetN (s : State) (i : SlotIx) (e : Option SlotEntry) :
    (s.setSlot i e).resetN = s.resetN := rfl
@[simp] theorem State.setSlot_counters (s : State) (i : SlotIx) (e : Option SlotEntry) :
    (s.setSlot i e).counters = s.counters := rfl
@[simp] theorem State.setSlot_log (s : State) (i : SlotIx) (e : Option SlotEntry) : (s.setSlot i e).log = s.log := rfl
@[simp] theorem State.setSlot_port (s : State) (i : SlotIx) (e : Option SlotEntry) :
    (s.setSlot i e).port = s.port := rfl
@[simp] theorem State.setSlot_store (s : State) (i : SlotIx) (e : Option SlotEntry) :
    (s.setSlot i e).store = s.store := rfl
@[simp] theorem State.setSlot_powerCycles (s : State) (i : SlotIx) (e : Option SlotEntry) :
    (s.setSlot i e).powerCycles = s.powerCycles := rfl
@[simp] theorem State.setSlot_commits (s : State) (i : SlotIx) (e : Option SlotEntry) :
    (s.setSlot i e).commits = s.commits := rfl
@[simp] theorem State.setSlot_sent (s : State) (i : SlotIx) (e : Option SlotEntry) :
    (s.setSlot i e).sent = s.sent := rfl
@[simp] theorem State.setSlot_pending (s : State) (i : SlotIx) (e : Option SlotEntry) :
    (s.setSlot i e).pending = s.pending := rfl

/-! ### State.setMirror -/

@[simp] theorem State.setMirror_front (s : State) (i : RegionIx) (m : Option MirrorRecord) :
    (s.setMirror i m).front = s.front := rfl
@[simp] theorem State.setMirror_staged (s : State) (i : RegionIx) (m : Option MirrorRecord) :
    (s.setMirror i m).staged = s.staged := rfl
@[simp] theorem State.setMirror_active (s : State) (i : RegionIx) (m : Option MirrorRecord) :
    (s.setMirror i m).active = s.active := rfl
@[simp] theorem State.setMirror_slots (s : State) (i : RegionIx) (m : Option MirrorRecord) :
    (s.setMirror i m).slots = s.slots := rfl
@[simp] theorem State.setMirror_cursors (s : State) (i : RegionIx) (m : Option MirrorRecord) :
    (s.setMirror i m).cursors = s.cursors := rfl
@[simp] theorem State.setMirror_engine (s : State) (i : RegionIx) (m : Option MirrorRecord) :
    (s.setMirror i m).engine = s.engine := rfl
@[simp] theorem State.setMirror_mirrors (s : State) (i : RegionIx) (m : Option MirrorRecord) :
    (s.setMirror i m).mirrors = s.mirrors.set i m := rfl
@[simp] theorem State.setMirror_patrol (s : State) (i : RegionIx) (m : Option MirrorRecord) :
    (s.setMirror i m).patrol = s.patrol := rfl
@[simp] theorem State.setMirror_tracker (s : State) (i : RegionIx) (m : Option MirrorRecord) :
    (s.setMirror i m).tracker = s.tracker := rfl
@[simp] theorem State.setMirror_ranks (s : State) (i : RegionIx) (m : Option MirrorRecord) :
    (s.setMirror i m).ranks = s.ranks := rfl
@[simp] theorem State.setMirror_quiesce (s : State) (i : RegionIx) (m : Option MirrorRecord) :
    (s.setMirror i m).quiesce = s.quiesce := rfl
@[simp] theorem State.setMirror_qreq (s : State) (i : RegionIx) (m : Option MirrorRecord) :
    (s.setMirror i m).qreq = s.qreq := rfl
@[simp] theorem State.setMirror_qack (s : State) (i : RegionIx) (m : Option MirrorRecord) :
    (s.setMirror i m).qack = s.qack := rfl
@[simp] theorem State.setMirror_resetN (s : State) (i : RegionIx) (m : Option MirrorRecord) :
    (s.setMirror i m).resetN = s.resetN := rfl
@[simp] theorem State.setMirror_counters (s : State) (i : RegionIx) (m : Option MirrorRecord) :
    (s.setMirror i m).counters = s.counters := rfl
@[simp] theorem State.setMirror_log (s : State) (i : RegionIx) (m : Option MirrorRecord) :
    (s.setMirror i m).log = s.log := rfl
@[simp] theorem State.setMirror_port (s : State) (i : RegionIx) (m : Option MirrorRecord) :
    (s.setMirror i m).port = s.port := rfl
@[simp] theorem State.setMirror_store (s : State) (i : RegionIx) (m : Option MirrorRecord) :
    (s.setMirror i m).store = s.store := rfl
@[simp] theorem State.setMirror_powerCycles (s : State) (i : RegionIx) (m : Option MirrorRecord) :
    (s.setMirror i m).powerCycles = s.powerCycles := rfl
@[simp] theorem State.setMirror_commits (s : State) (i : RegionIx) (m : Option MirrorRecord) :
    (s.setMirror i m).commits = s.commits := rfl
@[simp] theorem State.setMirror_sent (s : State) (i : RegionIx) (m : Option MirrorRecord) :
    (s.setMirror i m).sent = s.sent := rfl
@[simp] theorem State.setMirror_pending (s : State) (i : RegionIx) (m : Option MirrorRecord) :
    (s.setMirror i m).pending = s.pending := rfl

/-! ### State.onCounters -/

@[simp] theorem State.onCounters_front (s : State) (f : Counters → Counters) : (s.onCounters f).front = s.front := rfl
@[simp] theorem State.onCounters_staged (s : State) (f : Counters → Counters) :
    (s.onCounters f).staged = s.staged := rfl
@[simp] theorem State.onCounters_active (s : State) (f : Counters → Counters) :
    (s.onCounters f).active = s.active := rfl
@[simp] theorem State.onCounters_slots (s : State) (f : Counters → Counters) : (s.onCounters f).slots = s.slots := rfl
@[simp] theorem State.onCounters_cursors (s : State) (f : Counters → Counters) :
    (s.onCounters f).cursors = s.cursors := rfl
@[simp] theorem State.onCounters_engine (s : State) (f : Counters → Counters) :
    (s.onCounters f).engine = s.engine := rfl
@[simp] theorem State.onCounters_mirrors (s : State) (f : Counters → Counters) :
    (s.onCounters f).mirrors = s.mirrors := rfl
@[simp] theorem State.onCounters_patrol (s : State) (f : Counters → Counters) :
    (s.onCounters f).patrol = s.patrol := rfl
@[simp] theorem State.onCounters_tracker (s : State) (f : Counters → Counters) :
    (s.onCounters f).tracker = s.tracker := rfl
@[simp] theorem State.onCounters_ranks (s : State) (f : Counters → Counters) : (s.onCounters f).ranks = s.ranks := rfl
@[simp] theorem State.onCounters_quiesce (s : State) (f : Counters → Counters) :
    (s.onCounters f).quiesce = s.quiesce := rfl
@[simp] theorem State.onCounters_qreq (s : State) (f : Counters → Counters) : (s.onCounters f).qreq = s.qreq := rfl
@[simp] theorem State.onCounters_qack (s : State) (f : Counters → Counters) : (s.onCounters f).qack = s.qack := rfl
@[simp] theorem State.onCounters_resetN (s : State) (f : Counters → Counters) :
    (s.onCounters f).resetN = s.resetN := rfl
@[simp] theorem State.onCounters_counters (s : State) (f : Counters → Counters) :
    (s.onCounters f).counters = f s.counters := rfl
@[simp] theorem State.onCounters_log (s : State) (f : Counters → Counters) : (s.onCounters f).log = s.log := rfl
@[simp] theorem State.onCounters_port (s : State) (f : Counters → Counters) : (s.onCounters f).port = s.port := rfl
@[simp] theorem State.onCounters_store (s : State) (f : Counters → Counters) : (s.onCounters f).store = s.store := rfl
@[simp] theorem State.onCounters_powerCycles (s : State) (f : Counters → Counters) :
    (s.onCounters f).powerCycles = s.powerCycles := rfl
@[simp] theorem State.onCounters_commits (s : State) (f : Counters → Counters) :
    (s.onCounters f).commits = s.commits := rfl
@[simp] theorem State.onCounters_sent (s : State) (f : Counters → Counters) : (s.onCounters f).sent = s.sent := rfl
@[simp] theorem State.onCounters_pending (s : State) (f : Counters → Counters) :
    (s.onCounters f).pending = s.pending := rfl

/-! ### State.setQueue -/

@[simp] theorem State.setQueue_front (s : State) (q : List QueueEntry) :
    (s.setQueue q).front = { s.front with queue := q } := rfl
@[simp] theorem State.setQueue_staged (s : State) (q : List QueueEntry) : (s.setQueue q).staged = s.staged := rfl
@[simp] theorem State.setQueue_active (s : State) (q : List QueueEntry) : (s.setQueue q).active = s.active := rfl
@[simp] theorem State.setQueue_slots (s : State) (q : List QueueEntry) : (s.setQueue q).slots = s.slots := rfl
@[simp] theorem State.setQueue_cursors (s : State) (q : List QueueEntry) : (s.setQueue q).cursors = s.cursors := rfl
@[simp] theorem State.setQueue_engine (s : State) (q : List QueueEntry) : (s.setQueue q).engine = s.engine := rfl
@[simp] theorem State.setQueue_mirrors (s : State) (q : List QueueEntry) : (s.setQueue q).mirrors = s.mirrors := rfl
@[simp] theorem State.setQueue_patrol (s : State) (q : List QueueEntry) : (s.setQueue q).patrol = s.patrol := rfl
@[simp] theorem State.setQueue_tracker (s : State) (q : List QueueEntry) : (s.setQueue q).tracker = s.tracker := rfl
@[simp] theorem State.setQueue_ranks (s : State) (q : List QueueEntry) : (s.setQueue q).ranks = s.ranks := rfl
@[simp] theorem State.setQueue_quiesce (s : State) (q : List QueueEntry) : (s.setQueue q).quiesce = s.quiesce := rfl
@[simp] theorem State.setQueue_qreq (s : State) (q : List QueueEntry) : (s.setQueue q).qreq = s.qreq := rfl
@[simp] theorem State.setQueue_qack (s : State) (q : List QueueEntry) : (s.setQueue q).qack = s.qack := rfl
@[simp] theorem State.setQueue_resetN (s : State) (q : List QueueEntry) : (s.setQueue q).resetN = s.resetN := rfl
@[simp] theorem State.setQueue_counters (s : State) (q : List QueueEntry) :
    (s.setQueue q).counters = s.counters := rfl
@[simp] theorem State.setQueue_log (s : State) (q : List QueueEntry) : (s.setQueue q).log = s.log := rfl
@[simp] theorem State.setQueue_port (s : State) (q : List QueueEntry) : (s.setQueue q).port = s.port := rfl
@[simp] theorem State.setQueue_store (s : State) (q : List QueueEntry) : (s.setQueue q).store = s.store := rfl
@[simp] theorem State.setQueue_powerCycles (s : State) (q : List QueueEntry) :
    (s.setQueue q).powerCycles = s.powerCycles := rfl
@[simp] theorem State.setQueue_commits (s : State) (q : List QueueEntry) : (s.setQueue q).commits = s.commits := rfl
@[simp] theorem State.setQueue_sent (s : State) (q : List QueueEntry) : (s.setQueue q).sent = s.sent := rfl
@[simp] theorem State.setQueue_pending (s : State) (q : List QueueEntry) : (s.setQueue q).pending = s.pending := rfl

/-! ### State.track -/

@[simp] theorem State.track_front (s : State) (t : Tag) (la : LineAddr) (st : ReadState) :
    (s.track t la st).front =
      { s.front with tracker := s.front.tracker ++ [{ tag := t, la := la, state := st }] } := rfl
@[simp] theorem State.track_staged (s : State) (t : Tag) (la : LineAddr) (st : ReadState) :
    (s.track t la st).staged = s.staged := rfl
@[simp] theorem State.track_active (s : State) (t : Tag) (la : LineAddr) (st : ReadState) :
    (s.track t la st).active = s.active := rfl
@[simp] theorem State.track_slots (s : State) (t : Tag) (la : LineAddr) (st : ReadState) :
    (s.track t la st).slots = s.slots := rfl
@[simp] theorem State.track_cursors (s : State) (t : Tag) (la : LineAddr) (st : ReadState) :
    (s.track t la st).cursors = s.cursors := rfl
@[simp] theorem State.track_engine (s : State) (t : Tag) (la : LineAddr) (st : ReadState) :
    (s.track t la st).engine = s.engine := rfl
@[simp] theorem State.track_mirrors (s : State) (t : Tag) (la : LineAddr) (st : ReadState) :
    (s.track t la st).mirrors = s.mirrors := rfl
@[simp] theorem State.track_patrol (s : State) (t : Tag) (la : LineAddr) (st : ReadState) :
    (s.track t la st).patrol = s.patrol := rfl
@[simp] theorem State.track_tracker (s : State) (t : Tag) (la : LineAddr) (st : ReadState) :
    (s.track t la st).tracker = s.tracker := rfl
@[simp] theorem State.track_ranks (s : State) (t : Tag) (la : LineAddr) (st : ReadState) :
    (s.track t la st).ranks = s.ranks := rfl
@[simp] theorem State.track_quiesce (s : State) (t : Tag) (la : LineAddr) (st : ReadState) :
    (s.track t la st).quiesce = s.quiesce := rfl
@[simp] theorem State.track_qreq (s : State) (t : Tag) (la : LineAddr) (st : ReadState) :
    (s.track t la st).qreq = s.qreq := rfl
@[simp] theorem State.track_qack (s : State) (t : Tag) (la : LineAddr) (st : ReadState) :
    (s.track t la st).qack = s.qack := rfl
@[simp] theorem State.track_resetN (s : State) (t : Tag) (la : LineAddr) (st : ReadState) :
    (s.track t la st).resetN = s.resetN := rfl
@[simp] theorem State.track_counters (s : State) (t : Tag) (la : LineAddr) (st : ReadState) :
    (s.track t la st).counters = s.counters := rfl
@[simp] theorem State.track_log (s : State) (t : Tag) (la : LineAddr) (st : ReadState) :
    (s.track t la st).log = s.log := rfl
@[simp] theorem State.track_port (s : State) (t : Tag) (la : LineAddr) (st : ReadState) :
    (s.track t la st).port = s.port := rfl
@[simp] theorem State.track_store (s : State) (t : Tag) (la : LineAddr) (st : ReadState) :
    (s.track t la st).store = s.store := rfl
@[simp] theorem State.track_powerCycles (s : State) (t : Tag) (la : LineAddr) (st : ReadState) :
    (s.track t la st).powerCycles = s.powerCycles := rfl
@[simp] theorem State.track_commits (s : State) (t : Tag) (la : LineAddr) (st : ReadState) :
    (s.track t la st).commits = s.commits := rfl
@[simp] theorem State.track_sent (s : State) (t : Tag) (la : LineAddr) (st : ReadState) :
    (s.track t la st).sent = s.sent := rfl
@[simp] theorem State.track_pending (s : State) (t : Tag) (la : LineAddr) (st : ReadState) :
    (s.track t la st).pending = s.pending := rfl

/-! ### State.takeRead -/

@[simp] theorem State.takeRead_front (s : State) :
    s.takeRead.front = { s.front with readBalance := s.front.readBalance - 1 } := rfl
@[simp] theorem State.takeRead_staged (s : State) : s.takeRead.staged = s.staged := rfl
@[simp] theorem State.takeRead_active (s : State) : s.takeRead.active = s.active := rfl
@[simp] theorem State.takeRead_slots (s : State) : s.takeRead.slots = s.slots := rfl
@[simp] theorem State.takeRead_cursors (s : State) : s.takeRead.cursors = s.cursors := rfl
@[simp] theorem State.takeRead_engine (s : State) : s.takeRead.engine = s.engine := rfl
@[simp] theorem State.takeRead_mirrors (s : State) : s.takeRead.mirrors = s.mirrors := rfl
@[simp] theorem State.takeRead_patrol (s : State) : s.takeRead.patrol = s.patrol := rfl
@[simp] theorem State.takeRead_tracker (s : State) : s.takeRead.tracker = s.tracker := rfl
@[simp] theorem State.takeRead_ranks (s : State) : s.takeRead.ranks = s.ranks := rfl
@[simp] theorem State.takeRead_quiesce (s : State) : s.takeRead.quiesce = s.quiesce := rfl
@[simp] theorem State.takeRead_qreq (s : State) : s.takeRead.qreq = s.qreq := rfl
@[simp] theorem State.takeRead_qack (s : State) : s.takeRead.qack = s.qack := rfl
@[simp] theorem State.takeRead_resetN (s : State) : s.takeRead.resetN = s.resetN := rfl
@[simp] theorem State.takeRead_counters (s : State) : s.takeRead.counters = s.counters := rfl
@[simp] theorem State.takeRead_log (s : State) : s.takeRead.log = s.log := rfl
@[simp] theorem State.takeRead_port (s : State) : s.takeRead.port = s.port := rfl
@[simp] theorem State.takeRead_store (s : State) : s.takeRead.store = s.store := rfl
@[simp] theorem State.takeRead_powerCycles (s : State) : s.takeRead.powerCycles = s.powerCycles := rfl
@[simp] theorem State.takeRead_commits (s : State) : s.takeRead.commits = s.commits := rfl
@[simp] theorem State.takeRead_sent (s : State) : s.takeRead.sent = s.sent := rfl
@[simp] theorem State.takeRead_pending (s : State) : s.takeRead.pending = s.pending := rfl

/-! ### State.appendJob -/

@[simp] theorem State.appendJob_front (s : State) (r : JobRef) : (s.appendJob r).front = s.front := rfl
@[simp] theorem State.appendJob_staged (s : State) (r : JobRef) : (s.appendJob r).staged = s.staged := rfl
@[simp] theorem State.appendJob_active (s : State) (r : JobRef) : (s.appendJob r).active = s.active := rfl
@[simp] theorem State.appendJob_slots (s : State) (r : JobRef) : (s.appendJob r).slots = s.slots := rfl
@[simp] theorem State.appendJob_cursors (s : State) (r : JobRef) : (s.appendJob r).cursors = s.cursors := rfl
@[simp] theorem State.appendJob_engine (s : State) (r : JobRef) :
    (s.appendJob r).engine = { s.engine with queue := s.engine.queue ++ [r] } := rfl
@[simp] theorem State.appendJob_mirrors (s : State) (r : JobRef) : (s.appendJob r).mirrors = s.mirrors := rfl
@[simp] theorem State.appendJob_patrol (s : State) (r : JobRef) : (s.appendJob r).patrol = s.patrol := rfl
@[simp] theorem State.appendJob_tracker (s : State) (r : JobRef) : (s.appendJob r).tracker = s.tracker := rfl
@[simp] theorem State.appendJob_ranks (s : State) (r : JobRef) : (s.appendJob r).ranks = s.ranks := rfl
@[simp] theorem State.appendJob_quiesce (s : State) (r : JobRef) : (s.appendJob r).quiesce = s.quiesce := rfl
@[simp] theorem State.appendJob_qreq (s : State) (r : JobRef) : (s.appendJob r).qreq = s.qreq := rfl
@[simp] theorem State.appendJob_qack (s : State) (r : JobRef) : (s.appendJob r).qack = s.qack := rfl
@[simp] theorem State.appendJob_resetN (s : State) (r : JobRef) : (s.appendJob r).resetN = s.resetN := rfl
@[simp] theorem State.appendJob_counters (s : State) (r : JobRef) : (s.appendJob r).counters = s.counters := rfl
@[simp] theorem State.appendJob_log (s : State) (r : JobRef) : (s.appendJob r).log = s.log := rfl
@[simp] theorem State.appendJob_port (s : State) (r : JobRef) : (s.appendJob r).port = s.port := rfl
@[simp] theorem State.appendJob_store (s : State) (r : JobRef) : (s.appendJob r).store = s.store := rfl
@[simp] theorem State.appendJob_powerCycles (s : State) (r : JobRef) :
    (s.appendJob r).powerCycles = s.powerCycles := rfl
@[simp] theorem State.appendJob_commits (s : State) (r : JobRef) : (s.appendJob r).commits = s.commits := rfl
@[simp] theorem State.appendJob_sent (s : State) (r : JobRef) : (s.appendJob r).sent = s.sent := rfl
@[simp] theorem State.appendJob_pending (s : State) (r : JobRef) : (s.appendJob r).pending = s.pending := rfl

/-! ### State.removeJob -/

@[simp] theorem State.removeJob_front (s : State) (r : JobRef) : (s.removeJob r).front = s.front := rfl
@[simp] theorem State.removeJob_staged (s : State) (r : JobRef) : (s.removeJob r).staged = s.staged := rfl
@[simp] theorem State.removeJob_active (s : State) (r : JobRef) : (s.removeJob r).active = s.active := rfl
@[simp] theorem State.removeJob_slots (s : State) (r : JobRef) : (s.removeJob r).slots = s.slots := rfl
@[simp] theorem State.removeJob_cursors (s : State) (r : JobRef) : (s.removeJob r).cursors = s.cursors := rfl
@[simp] theorem State.removeJob_engine (s : State) (r : JobRef) :
    (s.removeJob r).engine = { s.engine with queue := s.engine.queue.erase r } := rfl
@[simp] theorem State.removeJob_mirrors (s : State) (r : JobRef) : (s.removeJob r).mirrors = s.mirrors := rfl
@[simp] theorem State.removeJob_patrol (s : State) (r : JobRef) : (s.removeJob r).patrol = s.patrol := rfl
@[simp] theorem State.removeJob_tracker (s : State) (r : JobRef) : (s.removeJob r).tracker = s.tracker := rfl
@[simp] theorem State.removeJob_ranks (s : State) (r : JobRef) : (s.removeJob r).ranks = s.ranks := rfl
@[simp] theorem State.removeJob_quiesce (s : State) (r : JobRef) : (s.removeJob r).quiesce = s.quiesce := rfl
@[simp] theorem State.removeJob_qreq (s : State) (r : JobRef) : (s.removeJob r).qreq = s.qreq := rfl
@[simp] theorem State.removeJob_qack (s : State) (r : JobRef) : (s.removeJob r).qack = s.qack := rfl
@[simp] theorem State.removeJob_resetN (s : State) (r : JobRef) : (s.removeJob r).resetN = s.resetN := rfl
@[simp] theorem State.removeJob_counters (s : State) (r : JobRef) : (s.removeJob r).counters = s.counters := rfl
@[simp] theorem State.removeJob_log (s : State) (r : JobRef) : (s.removeJob r).log = s.log := rfl
@[simp] theorem State.removeJob_port (s : State) (r : JobRef) : (s.removeJob r).port = s.port := rfl
@[simp] theorem State.removeJob_store (s : State) (r : JobRef) : (s.removeJob r).store = s.store := rfl
@[simp] theorem State.removeJob_powerCycles (s : State) (r : JobRef) :
    (s.removeJob r).powerCycles = s.powerCycles := rfl
@[simp] theorem State.removeJob_commits (s : State) (r : JobRef) : (s.removeJob r).commits = s.commits := rfl
@[simp] theorem State.removeJob_sent (s : State) (r : JobRef) : (s.removeJob r).sent = s.sent := rfl
@[simp] theorem State.removeJob_pending (s : State) (r : JobRef) : (s.removeJob r).pending = s.pending := rfl

/-! ### State.forgetRow -/

@[simp] theorem State.forgetRow_front (s : State) (r : PhysRow) : (s.forgetRow r).front = s.front := rfl
@[simp] theorem State.forgetRow_staged (s : State) (r : PhysRow) : (s.forgetRow r).staged = s.staged := rfl
@[simp] theorem State.forgetRow_active (s : State) (r : PhysRow) : (s.forgetRow r).active = s.active := rfl
@[simp] theorem State.forgetRow_slots (s : State) (r : PhysRow) : (s.forgetRow r).slots = s.slots := rfl
@[simp] theorem State.forgetRow_cursors (s : State) (r : PhysRow) : (s.forgetRow r).cursors = s.cursors := rfl
@[simp] theorem State.forgetRow_engine (s : State) (r : PhysRow) : (s.forgetRow r).engine = s.engine := rfl
@[simp] theorem State.forgetRow_mirrors (s : State) (r : PhysRow) : (s.forgetRow r).mirrors = s.mirrors := rfl
@[simp] theorem State.forgetRow_patrol (s : State) (r : PhysRow) : (s.forgetRow r).patrol = s.patrol := rfl
@[simp] theorem State.forgetRow_tracker (s : State) (r : PhysRow) :
    (s.forgetRow r).tracker = s.tracker.filter fun e => decide (e.row ≠ r) := rfl
@[simp] theorem State.forgetRow_ranks (s : State) (r : PhysRow) : (s.forgetRow r).ranks = s.ranks := rfl
@[simp] theorem State.forgetRow_quiesce (s : State) (r : PhysRow) : (s.forgetRow r).quiesce = s.quiesce := rfl
@[simp] theorem State.forgetRow_qreq (s : State) (r : PhysRow) : (s.forgetRow r).qreq = s.qreq := rfl
@[simp] theorem State.forgetRow_qack (s : State) (r : PhysRow) : (s.forgetRow r).qack = s.qack := rfl
@[simp] theorem State.forgetRow_resetN (s : State) (r : PhysRow) : (s.forgetRow r).resetN = s.resetN := rfl
@[simp] theorem State.forgetRow_counters (s : State) (r : PhysRow) : (s.forgetRow r).counters = s.counters := rfl
@[simp] theorem State.forgetRow_log (s : State) (r : PhysRow) : (s.forgetRow r).log = s.log := rfl
@[simp] theorem State.forgetRow_port (s : State) (r : PhysRow) : (s.forgetRow r).port = s.port := rfl
@[simp] theorem State.forgetRow_store (s : State) (r : PhysRow) : (s.forgetRow r).store = s.store := rfl
@[simp] theorem State.forgetRow_powerCycles (s : State) (r : PhysRow) :
    (s.forgetRow r).powerCycles = s.powerCycles := rfl
@[simp] theorem State.forgetRow_commits (s : State) (r : PhysRow) : (s.forgetRow r).commits = s.commits := rfl
@[simp] theorem State.forgetRow_sent (s : State) (r : PhysRow) : (s.forgetRow r).sent = s.sent := rfl
@[simp] theorem State.forgetRow_pending (s : State) (r : PhysRow) : (s.forgetRow r).pending = s.pending := rfl

/-! ### State.onPatrolStep -/

@[simp] theorem State.onPatrolStep_front (s : State) (f : PatrolStep → PatrolStep) :
    (s.onPatrolStep f).front = s.front := rfl
@[simp] theorem State.onPatrolStep_staged (s : State) (f : PatrolStep → PatrolStep) :
    (s.onPatrolStep f).staged = s.staged := rfl
@[simp] theorem State.onPatrolStep_active (s : State) (f : PatrolStep → PatrolStep) :
    (s.onPatrolStep f).active = s.active := rfl
@[simp] theorem State.onPatrolStep_slots (s : State) (f : PatrolStep → PatrolStep) :
    (s.onPatrolStep f).slots = s.slots := rfl
@[simp] theorem State.onPatrolStep_cursors (s : State) (f : PatrolStep → PatrolStep) :
    (s.onPatrolStep f).cursors = s.cursors := rfl
@[simp] theorem State.onPatrolStep_engine (s : State) (f : PatrolStep → PatrolStep) :
    (s.onPatrolStep f).engine = s.engine := rfl
@[simp] theorem State.onPatrolStep_mirrors (s : State) (f : PatrolStep → PatrolStep) :
    (s.onPatrolStep f).mirrors = s.mirrors := rfl
@[simp] theorem State.onPatrolStep_patrol (s : State) (f : PatrolStep → PatrolStep) :
    (s.onPatrolStep f).patrol = { s.patrol with step := s.patrol.step.map f } := rfl
@[simp] theorem State.onPatrolStep_tracker (s : State) (f : PatrolStep → PatrolStep) :
    (s.onPatrolStep f).tracker = s.tracker := rfl
@[simp] theorem State.onPatrolStep_ranks (s : State) (f : PatrolStep → PatrolStep) :
    (s.onPatrolStep f).ranks = s.ranks := rfl
@[simp] theorem State.onPatrolStep_quiesce (s : State) (f : PatrolStep → PatrolStep) :
    (s.onPatrolStep f).quiesce = s.quiesce := rfl
@[simp] theorem State.onPatrolStep_qreq (s : State) (f : PatrolStep → PatrolStep) :
    (s.onPatrolStep f).qreq = s.qreq := rfl
@[simp] theorem State.onPatrolStep_qack (s : State) (f : PatrolStep → PatrolStep) :
    (s.onPatrolStep f).qack = s.qack := rfl
@[simp] theorem State.onPatrolStep_resetN (s : State) (f : PatrolStep → PatrolStep) :
    (s.onPatrolStep f).resetN = s.resetN := rfl
@[simp] theorem State.onPatrolStep_counters (s : State) (f : PatrolStep → PatrolStep) :
    (s.onPatrolStep f).counters = s.counters := rfl
@[simp] theorem State.onPatrolStep_log (s : State) (f : PatrolStep → PatrolStep) :
    (s.onPatrolStep f).log = s.log := rfl
@[simp] theorem State.onPatrolStep_port (s : State) (f : PatrolStep → PatrolStep) :
    (s.onPatrolStep f).port = s.port := rfl
@[simp] theorem State.onPatrolStep_store (s : State) (f : PatrolStep → PatrolStep) :
    (s.onPatrolStep f).store = s.store := rfl
@[simp] theorem State.onPatrolStep_powerCycles (s : State) (f : PatrolStep → PatrolStep) :
    (s.onPatrolStep f).powerCycles = s.powerCycles := rfl
@[simp] theorem State.onPatrolStep_commits (s : State) (f : PatrolStep → PatrolStep) :
    (s.onPatrolStep f).commits = s.commits := rfl
@[simp] theorem State.onPatrolStep_sent (s : State) (f : PatrolStep → PatrolStep) :
    (s.onPatrolStep f).sent = s.sent := rfl
@[simp] theorem State.onPatrolStep_pending (s : State) (f : PatrolStep → PatrolStep) :
    (s.onPatrolStep f).pending = s.pending := rfl

/-! ### State.setCursor -/

@[simp] theorem State.setCursor_front (s : State) (c : Option (RegionIx × Nat)) :
    (s.setCursor c).front = s.front := rfl
@[simp] theorem State.setCursor_staged (s : State) (c : Option (RegionIx × Nat)) :
    (s.setCursor c).staged = s.staged := rfl
@[simp] theorem State.setCursor_active (s : State) (c : Option (RegionIx × Nat)) :
    (s.setCursor c).active = s.active := rfl
@[simp] theorem State.setCursor_slots (s : State) (c : Option (RegionIx × Nat)) :
    (s.setCursor c).slots = s.slots := rfl
@[simp] theorem State.setCursor_cursors (s : State) (c : Option (RegionIx × Nat)) :
    (s.setCursor c).cursors = s.cursors := rfl
@[simp] theorem State.setCursor_engine (s : State) (c : Option (RegionIx × Nat)) :
    (s.setCursor c).engine = s.engine := rfl
@[simp] theorem State.setCursor_mirrors (s : State) (c : Option (RegionIx × Nat)) :
    (s.setCursor c).mirrors = s.mirrors := rfl
@[simp] theorem State.setCursor_patrol (s : State) (c : Option (RegionIx × Nat)) :
    (s.setCursor c).patrol = { s.patrol with cursor := c } := rfl
@[simp] theorem State.setCursor_tracker (s : State) (c : Option (RegionIx × Nat)) :
    (s.setCursor c).tracker = s.tracker := rfl
@[simp] theorem State.setCursor_ranks (s : State) (c : Option (RegionIx × Nat)) :
    (s.setCursor c).ranks = s.ranks := rfl
@[simp] theorem State.setCursor_quiesce (s : State) (c : Option (RegionIx × Nat)) :
    (s.setCursor c).quiesce = s.quiesce := rfl
@[simp] theorem State.setCursor_qreq (s : State) (c : Option (RegionIx × Nat)) : (s.setCursor c).qreq = s.qreq := rfl
@[simp] theorem State.setCursor_qack (s : State) (c : Option (RegionIx × Nat)) : (s.setCursor c).qack = s.qack := rfl
@[simp] theorem State.setCursor_resetN (s : State) (c : Option (RegionIx × Nat)) :
    (s.setCursor c).resetN = s.resetN := rfl
@[simp] theorem State.setCursor_counters (s : State) (c : Option (RegionIx × Nat)) :
    (s.setCursor c).counters = s.counters := rfl
@[simp] theorem State.setCursor_log (s : State) (c : Option (RegionIx × Nat)) : (s.setCursor c).log = s.log := rfl
@[simp] theorem State.setCursor_port (s : State) (c : Option (RegionIx × Nat)) : (s.setCursor c).port = s.port := rfl
@[simp] theorem State.setCursor_store (s : State) (c : Option (RegionIx × Nat)) :
    (s.setCursor c).store = s.store := rfl
@[simp] theorem State.setCursor_powerCycles (s : State) (c : Option (RegionIx × Nat)) :
    (s.setCursor c).powerCycles = s.powerCycles := rfl
@[simp] theorem State.setCursor_commits (s : State) (c : Option (RegionIx × Nat)) :
    (s.setCursor c).commits = s.commits := rfl
@[simp] theorem State.setCursor_sent (s : State) (c : Option (RegionIx × Nat)) : (s.setCursor c).sent = s.sent := rfl
@[simp] theorem State.setCursor_pending (s : State) (c : Option (RegionIx × Nat)) :
    (s.setCursor c).pending = s.pending := rfl

/-! ### State.onRanks -/

@[simp] theorem State.onRanks_front (s : State) (f : RankSched → RankSched) : (s.onRanks f).front = s.front := rfl
@[simp] theorem State.onRanks_staged (s : State) (f : RankSched → RankSched) : (s.onRanks f).staged = s.staged := rfl
@[simp] theorem State.onRanks_active (s : State) (f : RankSched → RankSched) : (s.onRanks f).active = s.active := rfl
@[simp] theorem State.onRanks_slots (s : State) (f : RankSched → RankSched) : (s.onRanks f).slots = s.slots := rfl
@[simp] theorem State.onRanks_cursors (s : State) (f : RankSched → RankSched) :
    (s.onRanks f).cursors = s.cursors := rfl
@[simp] theorem State.onRanks_engine (s : State) (f : RankSched → RankSched) : (s.onRanks f).engine = s.engine := rfl
@[simp] theorem State.onRanks_mirrors (s : State) (f : RankSched → RankSched) :
    (s.onRanks f).mirrors = s.mirrors := rfl
@[simp] theorem State.onRanks_patrol (s : State) (f : RankSched → RankSched) : (s.onRanks f).patrol = s.patrol := rfl
@[simp] theorem State.onRanks_tracker (s : State) (f : RankSched → RankSched) :
    (s.onRanks f).tracker = s.tracker := rfl
@[simp] theorem State.onRanks_ranks (s : State) (f : RankSched → RankSched) :
    (s.onRanks f).ranks = mapV f s.ranks := rfl
@[simp] theorem State.onRanks_quiesce (s : State) (f : RankSched → RankSched) :
    (s.onRanks f).quiesce = s.quiesce := rfl
@[simp] theorem State.onRanks_qreq (s : State) (f : RankSched → RankSched) : (s.onRanks f).qreq = s.qreq := rfl
@[simp] theorem State.onRanks_qack (s : State) (f : RankSched → RankSched) : (s.onRanks f).qack = s.qack := rfl
@[simp] theorem State.onRanks_resetN (s : State) (f : RankSched → RankSched) : (s.onRanks f).resetN = s.resetN := rfl
@[simp] theorem State.onRanks_counters (s : State) (f : RankSched → RankSched) :
    (s.onRanks f).counters = s.counters := rfl
@[simp] theorem State.onRanks_log (s : State) (f : RankSched → RankSched) : (s.onRanks f).log = s.log := rfl
@[simp] theorem State.onRanks_port (s : State) (f : RankSched → RankSched) : (s.onRanks f).port = s.port := rfl
@[simp] theorem State.onRanks_store (s : State) (f : RankSched → RankSched) : (s.onRanks f).store = s.store := rfl
@[simp] theorem State.onRanks_powerCycles (s : State) (f : RankSched → RankSched) :
    (s.onRanks f).powerCycles = s.powerCycles := rfl
@[simp] theorem State.onRanks_commits (s : State) (f : RankSched → RankSched) :
    (s.onRanks f).commits = s.commits := rfl
@[simp] theorem State.onRanks_sent (s : State) (f : RankSched → RankSched) : (s.onRanks f).sent = s.sent := rfl
@[simp] theorem State.onRanks_pending (s : State) (f : RankSched → RankSched) :
    (s.onRanks f).pending = s.pending := rfl

/-! ### Operations that are another one with arguments fixed -/

@[simp] theorem State.ok_eq (s : State) (p : List Byte) : s.ok p = s.respond .ok p := rfl
@[simp] theorem State.badArg_eq (s : State) : s.badArg = s.respond .badArg [] := rfl
@[simp] theorem State.refuse_eq (s : State) (why : PortReason) : s.refuse why = s.respond .refused [why.code, 0xFF] := rfl
theorem State.supersede_eq (s : State) (la : LineAddr) : s.supersede la = s.notice la fun _ => true := rfl
theorem State.enqueue_eq (s : State) (la : LineAddr) (st : EntryState) :
    s.enqueue la st = s.setQueue (s.front.queue ++ [{ la := la, state := st }]) := rfl
theorem State.takeWrite_eq (s : State) (la : LineAddr) :
    s.takeWrite la =
      { s.supersede la with front := { s.front with writeBalance := s.front.writeBalance - 1 } } := rfl
theorem State.placeEntryWrite_eq (s : State) (la : LineAddr) (f : LineForm) (l : Loc) :
    State.placeEntryWrite la f s l =
      (s.notice la fun x => decide (x = l)).place { kind := .entryWrite f (writeClass s.active la l), la := la, loc := l } := rfl

/-! ### Operations guarded by a condition -/

@[simp] theorem State.live_next (s : State) (f : State → State) (h : s.resetN = false) : s.live f = .next (f s) := by
  simp [State.live, h]

@[simp] theorem State.live_reset (s : State) (f : State → State) (h : s.resetN = true) : s.live f = .next s := by
  simp [State.live, h]

@[simp] theorem State.atPort_next (s : State) (f : State → State) (h : s.resetN = false) :
    s.atPort f = .next (f s) := by
  simp [State.atPort, h]

@[simp] theorem State.atPort_reset (s : State) (f : State → State) (h : s.resetN = true) : s.atPort f = .next s := by
  simp [State.atPort, h]

end Sys2Proof.Machine
end

