-- ==== Sys2Proof/Laws/FrontLink.lean ====
section
/-! SUPPORT. What the shared operations of the front link and the router can do: the queue and tracker operations on a
queue or tracker given around the entry meant, the passing of an entry, the answers, and the tags in use. -/

namespace Sys2Proof.Machine

/-! ### Owed credits (R34, R36) -/

/-- A write credit is owed while admission is OPEN. -/
theorem State.oweWrite_eq (s : State) :
    s.oweWrite =
      { s with front := { s.front with
          writeOwed := s.front.writeOwed + if s.front.admission = .opened then 1 else 0 } } := by
  by_cases h : s.front.admission = .opened <;> simp [State.oweWrite, h]

/-- Read credits are owed while admission is OPEN. -/
theorem State.oweReads_eq (s : State) (n : Nat) :
    s.oweReads n =
      { s with front := { s.front with
          readOwed := s.front.readOwed + if s.front.admission = .opened then n else 0 } } := by
  by_cases h : s.front.admission = .opened <;> simp [State.oweReads, h]

/-! ### Entries of the write queue (R46) -/

theorem State.oldestEntry_of (s : State) {la : LineAddr} {older newer : List QueueEntry} {e : QueueEntry}
    (h : oldestFor s.front.queue older newer la e) : s.oldestEntry la = some e := by
  obtain ⟨hq, he, ho⟩ := h
  simp only [State.oldestEntry, hq]
  exact find_split _ _ _ _ (fun y hy => by simpa using ho y hy) (by simpa using he)

theorem State.newestEntry_of (s : State) {la : LineAddr} {older newer : List QueueEntry} {e : QueueEntry}
    (h : newestFor s.front.queue older newer la e) : s.newestEntry la = some e := by
  obtain ⟨hq, he, hn⟩ := h
  simp only [State.newestEntry, hq, List.reverse_append, List.reverse_cons, List.append_assoc]
  exact find_split _ _ _ _ (fun y hy => by simpa using hn y (by simpa using hy)) (by simpa using he)

theorem State.newestEntry_none (s : State) {la : LineAddr} (h : ∀ e ∈ s.front.queue, e.la ≠ la) :
    s.newestEntry la = none := by
  simp only [State.newestEntry, List.find?_eq_none]
  intro x hx
  simpa using h x (by simpa using hx)

/-- The entry found newest, with the entries around it. -/
theorem State.newestEntry_some (s : State) {la : LineAddr} {e : QueueEntry} (h : s.newestEntry la = some e) :
    ∃ older newer, newestFor s.front.queue older newer la e := by
  simp only [State.newestEntry] at h
  obtain ⟨he, l, r, hq, hl⟩ := List.find?_eq_some_iff_append.1 h
  refine ⟨r.reverse, l.reverse, ?_, by simpa using he, ?_⟩
  · simpa using congrArg List.reverse hq
  · intro x hx
    simpa using hl x (by simpa using hx)

theorem State.setOldest_of (s : State) {la : LineAddr} {older newer : List QueueEntry} {e : QueueEntry}
    (h : oldestFor s.front.queue older newer la e) (st : EntryState) :
    s.setOldest la st = s.setQueue (older ++ { e with state := st } :: newer) := by
  obtain ⟨hq, he, ho⟩ := h
  simp only [State.setOldest, hq]
  rw [replaceFirst_split _ _ _ _ _ (fun y hy => by simpa using ho y hy) (by simpa using he)]

theorem State.setNewest_of (s : State) {la : LineAddr} {older newer : List QueueEntry} {e : QueueEntry}
    (h : newestFor s.front.queue older newer la e) (st : EntryState) :
    s.setNewest la st = s.setQueue (older ++ { e with state := st } :: newer) := by
  obtain ⟨hq, he, hn⟩ := h
  simp only [State.setNewest, hq, List.reverse_append, List.reverse_cons, List.append_assoc, List.singleton_append]
  rw [replaceFirst_split _ _ _ _ _ (fun y hy => by simpa using hn y (by simpa using hy)) (by simpa using he)]
  simp

theorem State.dropOldest_of (s : State) {la : LineAddr} {older newer : List QueueEntry} {e : QueueEntry}
    (h : oldestFor s.front.queue older newer la e) :
    s.dropOldest la = (s.setQueue (older ++ newer)).oweWrite := by
  obtain ⟨hq, he, ho⟩ := h
  simp only [State.dropOldest, hq]
  rw [eraseP_split _ _ _ _ (fun y hy => by simpa using ho y hy) (by simpa using he)]

/-! ### Placing and passing an entry (R51, R52, R58, R61, R68) -/

/-- The location on a side of a mirrored line is on that side (R3, R56). -/
@[simp] theorem sideAt_sideLoc (x : Side) (la : LineAddr) : sideAt la (sideLoc x la) = x := by
  have off : ∀ k : RankNo, rankAbove k ≠ k := by decide
  cases x <;> simp [sideAt, sideLoc, homeLoc, PhysRow.atCol, off]

/-- The routing class of a write on a side of a MIRRORED line (R56, R57). -/
theorem writeClass_mirrored (t : RegionTable) (la : LineAddr) (i : RegionIx) (patrol : Bool) (x : Side)
    (h : decodeRow t (homeRow la) = .region i .mirrored patrol) :
    writeClass t la (sideLoc x la) = .mirrored i x := by
  simp [writeClass, h]

/-- All that the placement of an entry's rank writes changes is the rank schedulers and, by its notices, what the patrol
step keeps. -/
theorem State.placeEntryWrites_eq (s : State) (la : LineAddr) (f : LineForm) (locs : List Loc) :
    locs.foldl (State.placeEntryWrite la f) s =
      { s with
        ranks := (locs.foldl (State.placeEntryWrite la f) s).ranks
        patrol := { s.patrol with step := (locs.foldl (State.placeEntryWrite la f) s).patrol.step } } := by
  induction locs generalizing s with
  | nil => rfl
  | cons l locs ih =>
    rw [List.foldl_cons, ih]
    rfl

/-- All that passing an entry can do: by its route it leaves as STALE, is HELD with the line step, or is ISSUED with
its rank writes placed. -/
theorem State.passEntry_cases (s : State) (la : LineAddr) (f : LineForm) {older newer : List QueueEntry}
    {e : QueueEntry} (h : oldestFor s.front.queue older newer la e) :
    (s.writeRoute la = .stale ∧ s.passEntry la f = (s.setQueue (older ++ newer)).oweWrite)
      ∨ (s.writeRoute la = .hold
        ∧ s.passEntry la f = (s.setQueue (older ++ { e with state := .held f } :: newer)).holdOnStep la)
      ∨ ∃ locs, s.writeRoute la = .places locs
        ∧ s.passEntry la f = (locs.foldl (State.placeEntryWrite la f) s).setQueue
            (older ++ { e with state := .issued f locs.length } :: newer) := by
  cases hr : s.writeRoute la with
  | stale =>
    refine .inl ⟨rfl, ?_⟩
    simp only [State.passEntry, hr]
    exact s.dropOldest_of h
  | hold =>
    refine .inr (.inl ⟨rfl, ?_⟩)
    simp only [State.passEntry, hr]
    rw [s.setOldest_of h]
  | places locs =>
    refine .inr (.inr ⟨locs, rfl, ?_⟩)
    simp only [State.passEntry, hr]
    refine State.setOldest_of _ (older := older) (newer := newer) ?_ _
    rw [State.placeEntryWrites_eq]
    exact h

/-- All that the release of a held entry can change: the front link, the engine's held entry, the rank schedulers, and
what the patrol step keeps. -/
theorem State.releaseHeld_eq (s : State) (held : Option LineAddr) :
    s.releaseHeld held =
      { s with
        front := (s.releaseHeld held).front
        engine := (s.releaseHeld held).engine
        ranks := (s.releaseHeld held).ranks
        patrol := (s.releaseHeld held).patrol } := by
  cases held with
  | none => rfl
  | some la =>
    simp only [State.releaseHeld]
    split
    · simp only [State.passEntry]
      split
      · simp only [State.dropOldest, State.oweWrite]
        split <;> rfl
      · rfl
      · rw [State.placeEntryWrites_eq]
        rfl
    · rfl

/-! ### Answers (R44, R45, R50) -/

/-- READ DATA for a read that is tracked. -/
theorem State.answerRead_of (s : State) {before after : List TrackedRead} {r : TrackedRead}
    (h : trackedAs s.front.tracker before after r) (d : LineData) (o : ReadResult) :
    s.answerRead r.tag d o = s.withReadAnswer before after r.tag d o := by
  obtain ⟨ht, hb⟩ := h
  have gone : (s.front.tracker.eraseP fun t => decide (t.tag = r.tag)) = before ++ after := by
    rw [ht]
    exact eraseP_split _ _ _ _ (fun y hy => by simpa using hb y hy) (by simp)
  have there : (s.front.tracker.any fun t => decide (t.tag = r.tag)) = true := by
    rw [ht]
    simp
  simp only [State.answerRead, there, if_true, State.send, gone, State.oweReads_eq, State.withReadAnswer]

/-- No answer for a tag that is not tracked. -/
theorem State.answerRead_none (s : State) (tag : Tag) (d : LineData) (o : ReadResult)
    (h : ∀ t ∈ s.front.tracker, t.tag ≠ tag) : s.answerRead tag d o = s := by
  have : (s.front.tracker.any fun t => decide (t.tag = tag)) = false := by
    simpa using h
  simp [State.answerRead, this]

/-- Messages sent one after another. -/
theorem State.sends_eq {α : Type} (s : State) (f : α → HostMsg) (l : List α) :
    l.foldl (fun s t => s.send (f t)) s = { s with sent := s.sent ++ l.map f } := by
  induction l generalizing s with
  | nil => simp
  | cons a l ih =>
    rw [List.foldl_cons, ih]
    simp [State.send]

/-- The answers of one merge, with the queue as the merge has left it. -/
theorem State.answerMerge_eq (s : State) (older newer : List QueueEntry) (la : LineAddr) (tag : Tag) (f : LineForm)
    (h : s.front.queue = older ++ { la := la, state := .queued f } :: newer) :
    s.answerMerge tag f = s.withMerge older newer la tag f := by
  have take : TrackedRead.heldOn tag = fun t => decide (t.state = .heldForMerge tag) := rfl
  simp only [State.answerMerge, State.sends_eq, State.oweReads_eq, State.withMerge, take, ← h]
  cases f <;> simp [State.send, formAck, formData, formResult, zeroLine] <;> rfl

/-! ### Tags and checks (R39, R42) -/

/-- A tag is held exactly if it is among the tags of the tracked reads and of the MERGING entries. -/
theorem FrontLink.tagHeld_iff (f : FrontLink) (tag : Tag) : f.tagHeld tag = true ↔ tag ∈ f.tagsHeld := by
  simp only [FrontLink.tagHeld, FrontLink.tagsHeld, Bool.or_eq_true, List.any_eq_true, List.mem_append, List.mem_map,
    List.mem_filterMap, decide_eq_true_eq]
  refine or_congr Iff.rfl (exists_congr fun e => and_congr Iff.rfl ?_)
  obtain ⟨la, st⟩ := e
  cases st <;> simp [QueueEntry.mergingWith, QueueEntry.tag]

/-- The sixth check lets a request pass exactly where the decode accepts it (R19). -/
theorem decodeRefusal_none_iff (d : Decoded) : decodeRefusal d = none ↔ d.accepts = true := by
  rcases d with ⟨i, p, b⟩ | i | _
  · cases p <;> simp [Decoded.accepts, decodeRefusal]
  · simp [Decoded.accepts, decodeRefusal]
  · simp [Decoded.accepts, decodeRefusal]

/-- A request passes exactly if it passes the six checks. -/
theorem State.check_none_iff (s : State) (tag : Tag) (la : LineAddr) (balance : Nat) (badMask : Bool) :
    s.check tag la balance badMask = none ↔
      s.front.admission = .opened ∧ s.quiesce = .run ∧ balance ≠ 0 ∧ tag ∉ s.front.tagsHeld ∧ badMask = false
        ∧ (decodeRow s.active (homeRow la)).accepts = true := by
  have admission : s.front.admission = .opened ↔ ¬ s.front.admission = .closed := by
    cases s.front.admission <;> simp
  rw [← FrontLink.tagHeld_iff, ← decodeRefusal_none_iff, admission]
  simp only [State.check]
  split_ifs <;> simp_all

end Sys2Proof.Machine
end

