-- ==== Sys2Proof/Laws/Lines.lean ====
section
/-! SUPPORT. The line check unit (R4, R5, R6): the data read back from the symbols of a line, the properties of the
encoder that hold by construction, and what the search of a corrected line finds. -/

namespace Sys2Proof.Machine

/-! ### Encoding (R4, R5) -/

/-- A byte of four joined to a symbol, the first in the highest bits. -/
theorem joined_byte (a b c d : Byte) :
    (a ++ b ++ c ++ d).extractLsb' 24 8 = a ∧ (a ++ b ++ c ++ d).extractLsb' 16 8 = b
      ∧ (a ++ b ++ c ++ d).extractLsb' 8 8 = c ∧ (a ++ b ++ c ++ d).extractLsb' 0 8 = d := by
  refine ⟨?_, ?_, ?_, ?_⟩ <;>
  · apply BitVec.eq_of_getLsbD_eq
    intro i hi
    simp only [BitVec.getLsbD_extractLsb', BitVec.getLsbD_append]
    have := hi
    interval_cases i <;> simp

/-- A byte of a data symbol (R4). -/
theorem formSymbol_byte (d : LineData) (b : Fin 64) :
    (formSymbol (.data d) (Fin.ofNat 18 (b.val / 4))).extractLsb' (8 * (3 - b.val % 4)) 8 = d[b] := by
  have hb := b.isLt
  have small : (Fin.ofNat 18 (b.val / 4)).val = b.val / 4 := by
    simp only [Fin.val_ofNat]
    omega
  have low : b.val / 4 < 16 := by omega
  simp only [formSymbol, small, low, dif_pos]
  obtain ⟨h0, h1, h2, h3⟩ := joined_byte d[4 * (b.val / 4)] d[4 * (b.val / 4) + 1] d[4 * (b.val / 4) + 2]
    d[4 * (b.val / 4) + 3]
  have cases : b.val % 4 = 0 ∨ b.val % 4 = 1 ∨ b.val % 4 = 2 ∨ b.val % 4 = 3 := by omega
  rcases cases with h | h | h | h
  · rw [h]
    refine h0.trans ?_
    simp only [Fin.getElem_fin]
    congr 1
    omega
  · rw [h]
    refine h1.trans ?_
    simp only [Fin.getElem_fin]
    congr 1
    omega
  · rw [h]
    refine h2.trans ?_
    simp only [Fin.getElem_fin]
    congr 1
    omega
  · rw [h]
    refine h3.trans ?_
    simp only [Fin.getElem_fin]
    congr 1
    omega

/-- The data of a line as it was encoded (R4). -/
theorem dataOf_form (d : LineData) : dataOf (formSymbol (.data d)) = d := by
  apply Vector.ext
  intro i hi
  simp only [dataOf, Vector.getElem_ofFn]
  exact formSymbol_byte d ⟨i, hi⟩

/-- The data symbols of the poison line are zero (R5). -/
theorem formSymbol_poison (i : Fin 18) (h : i.val < 16) : formSymbol .poison i = 0 := by
  simp [formSymbol, h]

/-- Changing one bit changes a symbol. -/
theorem flip_ne (x : BitVec 32) : x ^^^ 1 ≠ x := by
  intro h
  have := congrArg (fun y => y.getLsbD 0) h
  simp at this

/-- The encoder never produces the poison pattern in the check symbols (R4). -/
theorem checkSymbol_not_poison (d : LineData) :
    ¬ (checkSymbol d 0 = Config.poisonSymbol 0 ∧ checkSymbol d 1 = Config.poisonSymbol 1) := by
  rintro ⟨h0, h1⟩
  simp only [checkSymbol] at h0 h1
  split at h0
  · split at h0
    · rename_i hz he
      rw [← he] at h0
      exact flip_ne _ h0
    · contradiction
  · split at h0
    · rename_i hz he
      rw [← he.1] at h0
      exact flip_ne _ h0
    · rename_i hz he
      simp only [hz, if_false, he] at h1
      exact he ⟨h0, h1⟩

/-- Neither check symbol of 64 bytes of 0x00 is the poison line's. -/
theorem checkSymbol_zero (j : Fin 2) : checkSymbol zeroLine j ≠ Config.poisonSymbol j := by
  simp only [checkSymbol, if_true]
  split
  · rename_i h
    rw [← h]
    exact flip_ne _
  · assumption

/-! ### Classification (R6) -/

/-- The symbols of a line with none in error agree with its data. -/
theorem checkAgrees_form (d : LineData) (j : Fin 2) : checkAgrees (formSymbol (.data d)) j = true := by
  simp only [checkAgrees, dataOf_form, beq_iff_eq]
  fin_cases j <;> rfl

/-- The places of a list without repeats at which a test holds are one at most, just when any two of them are the same. -/
theorem countP_le_one {α : Type} (p : α → Bool) (l : List α) (h : l.Nodup) :
    l.countP p ≤ 1 ↔ ∀ a ∈ l, ∀ b ∈ l, p a = true → p b = true → a = b := by
  rw [List.countP_eq_length_filter]
  have distinct := h.filter p
  constructor
  · intro one a ha b hb pa pb
    have ma : a ∈ l.filter p := List.mem_filter.2 ⟨ha, pa⟩
    have mb : b ∈ l.filter p := List.mem_filter.2 ⟨hb, pb⟩
    match hf : l.filter p, one with
    | [], _ => simp [hf] at ma
    | [x], _ =>
      rw [hf] at ma mb
      simp only [List.mem_singleton] at ma mb
      rw [ma, mb]
    | _ :: _ :: _, one => simp at one
  · intro same
    match hf : l.filter p with
    | [] => simp
    | [_] => simp
    | x :: y :: rest =>
      have mx : x ∈ l.filter p := by simp [hf]
      have my : y ∈ l.filter p := by simp [hf]
      have := same x (List.mem_filter.1 mx).1 y (List.mem_filter.1 my).1 (List.mem_filter.1 mx).2
        (List.mem_filter.1 my).2
      rw [hf] at distinct
      simp [this] at distinct

/-- The eighteen symbols are the sixteen data symbols and the two check symbols. -/
theorem symbols_split :
    List.finRange 18 =
      (List.finRange 16).map (fun i => i.castLE (by omega)) ++ (List.finRange 2).map fun j => Fin.ofNat 18 (16 + j.val) := by
  decide

/-- Step 1 of R6: the symbols are the poison line's, or differ from them in one only. -/
theorem nearPoison_iff (x : Fin 18 → BitVec 32) :
    nearPoison x = true ↔ ∃ j : Fin 18, ∀ i : Fin 18, i ≠ j → x i = formSymbol .poison i := by
  have count : (List.finRange 18).countP (fun i => x i != formSymbol .poison i) =
      (List.finRange 16).countP (fun i => x (i.castLE (by omega)) != 0)
        + (List.finRange 2).countP (fun j => x (Fin.ofNat 18 (16 + j.val)) != Config.poisonSymbol j) := by
    rw [symbols_split, List.countP_append, List.countP_map, List.countP_map]
    refine congrArg₂ (· + ·) ?_ ?_
    · apply List.countP_congr
      intro i _
      simp [formSymbol]
    · apply List.countP_congr
      intro j _
      fin_cases j <;> simp [formSymbol]
  have whole : nearPoison x = true ↔ (List.finRange 18).countP (fun i => x i != formSymbol .poison i) ≤ 1 := by
    rw [count]
    simp only [nearPoison, Bool.and_eq_true, decide_eq_true_eq]
    exact ⟨fun h => h.2, fun h => ⟨by omega, h⟩⟩
  rw [whole, countP_le_one _ _ (List.nodup_finRange 18)]
  simp only [List.mem_finRange, forall_const, bne_iff_ne, ne_eq]
  constructor
  · intro same
    by_cases all : ∀ i, x i = formSymbol .poison i
    · exact ⟨0, fun i _ => all i⟩
    · obtain ⟨j, hj⟩ := not_forall.1 all
      exact ⟨j, fun i hi => by_contra fun h => hi (same i j h hj)⟩
  · rintro ⟨j, hj⟩ a b ha hb
    have ea : a = j := by_contra fun h => ha (hj a h)
    have eb : b = j := by_contra fun h => hb (hj b h)
    rw [ea, eb]

/-- What the search of one data symbol finds: a freshly encoded line that the symbols are but for that one. -/
theorem valueSearch_some (x : Fin 18 → BitVec 32) (j : Fin 18) (n : Nat) (d : LineData)
    (h : valueSearch x j n = some d) :
    ∃ v, checksAgree (putSymbol x j v) = true ∧ dataOf (putSymbol x j v) = d := by
  induction n with
  | zero => cases h
  | succ n ih =>
    simp only [valueSearch] at h
    split at h
    · rename_i agrees
      exact ⟨BitVec.ofNat 32 n, agrees, by simpa using h⟩
    · exact ih h

/-- The search of one data symbol finds nothing only where no value below the bound makes the check symbols agree. -/
theorem valueSearch_none (x : Fin 18 → BitVec 32) (j : Fin 18) (n : Nat) (h : valueSearch x j n = none) (m : Nat)
    (hm : m < n) : checksAgree (putSymbol x j (BitVec.ofNat 32 m)) = false := by
  induction n with
  | zero => omega
  | succ n ih =>
    simp only [valueSearch] at h
    split at h
    · cases h
    · rename_i no
      by_cases e : m = n
      · subst e
        simpa using no
      · exact ih h (by omega)

/-- A symbol of 32 bits has 2 to the 32 values. -/
theorem symbolValues_eq : Config.symbolValues = 2 ^ 32 := by
  unfold Config.symbolValues
  rfl

/-- Over all the values of a symbol, the search finds nothing only where no value makes the check symbols agree. -/
theorem valueSearch_all (x : Fin 18 → BitVec 32) (j : Fin 18) (h : valueSearch x j Config.symbolValues = none)
    (v : BitVec 32) : checksAgree (putSymbol x j v) = false := by
  have below : v.toNat < Config.symbolValues := by
    rw [symbolValues_eq]
    exact v.isLt
  have := valueSearch_none x j Config.symbolValues h v.toNat below
  simpa using this

/-- A line written by the line check unit is classified as what it was written as, tag or bytes. -/
theorem classifySymbols_form (f : LineForm) : classifySymbols (formSymbol f) = classify (.intact f) := by
  cases f with
  | poison =>
    have near : nearPoison (formSymbol .poison) = true := (nearPoison_iff _).2 ⟨0, fun _ _ => rfl⟩
    simp [classifySymbols, classify, near]
  | data d =>
    have far : nearPoison (formSymbol (.data d)) = false := by
      rw [Bool.eq_false_iff]
      intro h
      obtain ⟨j, hj⟩ := (nearPoison_iff _).1 h
      by_cases z : d = zeroLine
      · by_cases e : j = 16
        · exact checkSymbol_zero 1 (z ▸ hj 17 (by simp [e]))
        · exact checkSymbol_zero 0 (z ▸ hj 16 (Ne.symm e))
      · by_cases low : j.val < 16
        · exact checkSymbol_not_poison d ⟨hj 16 (by rintro rfl; simp at low), hj 17 (by rintro rfl; simp at low)⟩
        · apply z
          rw [← dataOf_form d]
          apply Vector.ext
          intro b hb
          have place : (Fin.ofNat 18 (b / 4)).val < 16 := by
            simp only [Fin.val_ofNat]
            omega
          have at0 := (hj (Fin.ofNat 18 (b / 4)) (fun e => low (e ▸ place))).trans (formSymbol_poison _ place)
          simp only [dataOf, zeroLine, Vector.getElem_ofFn, Vector.getElem_replicate, at0]
          simp
    simp [classifySymbols, classify, far, checksAgree, checkAgrees_form, dataOf_form]

end Sys2Proof.Machine
end

