-- ==== Sys2Proof/Laws/Quiesce.lean ====
section
/-! SUPPORT. What entering RUN and DRAINING can do (R38, R109, R110), what power-on reset leaves of a rank scheduler (R75,
R137), what a completed patrol operation does to its step (R133), and what the port holds of the bytes of a frame
and of the resets (R162, R163). -/

namespace Sys2Proof.Machine

/-- With credits started, nothing more starts. -/
theorem State.startCredits_started (s : State) (h : s.front.creditsStarted = true) : s.startCredits = s := by
  simp [State.startCredits, h]

/-- Credits start with the initial CREDIT while admission is OPEN. -/
theorem State.startCredits_opened (s : State) (h : s.front.creditsStarted = false)
    (ho : s.front.admission = .opened) :
    s.startCredits =
      { s with
        sent := s.sent ++ [.credit 32 24 true]
        front := { s.front with creditsStarted := true, readBalance := 32, writeBalance := 24 } } := by
  simp [State.startCredits, h, ho, State.initialCredit, State.send, Config.readCredits, Config.writeCredits]

/-- Credits start without a message while admission is CLOSED. -/
theorem State.startCredits_closed (s : State) (h : s.front.creditsStarted = false)
    (hc : s.front.admission = .closed) :
    s.startCredits = { s with front := { s.front with creditsStarted := true } } := by
  simp [State.startCredits, h, hc]

/-- Entering RUN changes the quiesce state, a PAUSED engine, and the start of credits. -/
theorem State.enterRun_eq (s : State) :
    s.enterRun =
      { s with
        quiesce := .run
        engine := s.engine.resume
        front := s.enterRun.front
        sent := s.enterRun.sent } := by
  simp only [State.enterRun, State.startCredits]
  split
  · rfl
  · split <;> rfl

/-- Entering RUN or DRAINING by the level of QREQ_N. -/
theorem State.enterByRequest_cases (s : State) :
    (s.qreq = true ∧ s.enterByRequest = s.enterDraining) ∨ (s.qreq = false ∧ s.enterByRequest = s.enterRun) := by
  cases h : s.qreq <;> simp [State.enterByRequest, h]

/-- An engine resumed has its job and its queue as they were. -/
theorem Engine.resume_eq (e : Engine) : e.resume = { e with mode := e.resume.mode } := by
  simp only [Engine.resume]
  split <;> rfl

/-- An engine paused has its job and its queue as they were. -/
theorem Engine.pause_eq (e : Engine) : e.pause = { e with mode := e.pause.mode } := by
  simp only [Engine.pause]
  split <;> rfl

/-- Power-on reset leaves of a rank its operations in progress, each to finish without result, and nothing else. -/
@[simp] theorem State.powerOn_rank (s : State) (straps : BitVec 2) (k : RankNo) :
    (s.powerOn straps).ranks[k] = (s.ranks[k]).powerOn := by
  simp [State.powerOn]

/-- The operation that power-on reset leaves on a bank. -/
@[simp] theorem RankSched.powerOn_bank (r : RankSched) (b : BankNo) :
    r.powerOn.banks[b] = (r.banks[b]).map fun o => { o with abandoned := true } := by
  simp only [RankSched.powerOn, RankSched.abandoned, Fin.getElem_fin, mapV_getElem]
  rfl

/-- The bytes of a frame join the frame that the port is taking, where it is taking one. -/
theorem BusView.after_bytes (frame : List Byte) (v : BusView) :
    (frame.map BusEvent.byte).foldl BusView.after v = { v with frame := v.frame.map fun held => held ++ frame } := by
  induction frame generalizing v with
  | nil => cases v with | mk a r p f => cases f <;> simp
  | cons b rest ih =>
    rw [List.map_cons, List.foldl_cons, ih]
    cases v with | mk a r p f => cases f <;> simp [BusView.after]

/-- POWER_ON_RESET leaves the view that its two edges on the bus leave. -/
theorem State.powerOn_busView (s : State) (straps : BitVec 2) :
    (s.powerOn straps).busView = [.powerOnAsserted, .powerOnReleased straps].foldl BusView.after s.busView := rfl

/-- WARM_RESET_ASSERT leaves the view that its edge on the bus leaves. -/
theorem State.assertReset_busView (s : State) : s.assertReset.busView = s.busView.after .resetAsserted := by
  simp only [State.assertReset]
  split
  · rename_i h
    simp [State.busView, BusView.after, h]
  · rfl

/-- A completed patrol operation is one less of its step, and the last one ends it. -/
theorem State.patrolDone_eq (s : State) :
    s.patrolDone = { s with patrol := { s.patrol with step := patrolLess s.patrol.step } } := rfl

/-- One more operation of a patrol step, and one less, is the step as it was. -/
theorem State.patrolMore_done (s : State) (p : PatrolStep) (h : s.patrol.step = some p) (ho : 1 ≤ p.outstanding) :
    s.patrolMore.patrolDone = s := by
  obtain ⟨_, _, _, _, _, _, _, ⟨_, _, _, step⟩, _, _, _, _, _, _, _, _, _, _, _, _, _, _⟩ := s
  simp only at h
  subst h
  have : ¬ p.outstanding + 1 ≤ 1 := by omega
  simp [State.patrolMore, State.patrolDone, this]

/-- The quiesce state that the ranks give at the release of RESET_N is no part of the port's view. -/
theorem State.quiesceFromRanks_busView (s : State) : s.quiesceFromRanks.busView = s.busView := by
  simp only [State.quiesceFromRanks]
  split
  · rfl
  · split
    · rfl
    · rcases s.enterByRequest_cases with ⟨_, h⟩ | ⟨_, h⟩
      · rw [h]; rfl
      · rw [h, State.enterRun_eq]; rfl

/-- WARM_RESET_RELEASE leaves the view that its edge on the bus leaves. -/
theorem State.releaseReset_busView (s : State) : s.releaseReset.busView = s.busView.after .resetReleased := by
  simp only [State.releaseReset]
  split
  · exact (State.quiesceFromRanks_busView _).trans rfl
  · rename_i h
    simp [State.busView, BusView.after, h]

end Sys2Proof.Machine
end

