-- ==== Sys2Proof/Laws/Scheduler.lean ====
section
/-! SUPPORT. What a grant of a rank scheduler can be and what it can change (R69, R142, R144, R145), and how the shared
operations on ranks read on one rank. -/

namespace Sys2Proof.Machine

/-! ### One rank of the four -/

/-- A rank after one of the ranks has changed. -/
theorem State.onRank_get (s : State) (k n : RankNo) (f : RankSched → RankSched) :
    (s.onRank k f).ranks[n] = if n = k then f s.ranks[k] else s.ranks[n] := by
  by_cases h : n = k
  · subst h
    simp
  · have : k.val ≠ n.val := fun e => h (Fin.ext e.symm)
    simp [h, Vector.getElem_set_ne _ _ this]

/-- A rank after an operation is placed: its place is the youngest on its own rank. -/
theorem State.place_get (s : State) (o : LineOp) (n : RankNo) :
    (s.place o).ranks[n] =
      if n = o.loc.rank then { s.ranks[n] with placed := (s.ranks[n]).placed ++ [o] } else s.ranks[n] := by
  show (s.onRank o.loc.rank _).ranks[n] = _
  rw [State.onRank_get]
  split
  · rename_i h
    subst h
    rfl
  · rfl

/-- A rank under a notice (R68). -/
theorem State.notice_get (s : State) (la : LineAddr) (p : Loc → Bool) (n : RankNo) :
    (s.notice la p).ranks[n] = (s.ranks[n]).noticed la p := by
  simp

/-! ### Which operation is granted (R144, R145) -/

/-- The eligible operations are those placed for the slot, with it idle and no earlier one for their line. -/
theorem RankSched.mem_eligibles (r : RankSched) (c : SlotChoice) (i : Nat) (o : LineOp) :
    (o, i) ∈ r.eligibles c ↔ r.placed[i]? = some o ∧ c.takes o = true ∧ r.eligible i o = true := by
  simp [RankSched.eligibles, List.mem_zipIdx_iff_getElem?]

/-- The HOST step chooses among the eligible operations. -/
theorem RankSched.hostChoice_mem (r : RankSched) (c : SlotChoice) (w : Bool) (x : LineOp × Nat)
    (h : r.hostChoice c w = some x) : x ∈ r.eligibles c := by
  simp only [RankSched.hostChoice] at h
  split at h
  · rename_i y hy
    cases h
    exact List.mem_of_mem_filter (List.mem_of_find?_eq_some hy)
  · exact List.mem_of_mem_filter (List.mem_of_mem_head? h)

/-- The oldest of a class is among the eligible operations, and of that class. -/
theorem RankSched.oldestOf_mem (r : RankSched) (c : SlotChoice) (cls : OpClass) (x : LineOp × Nat)
    (h : r.oldestOf c cls = some x) : x ∈ r.eligibles c ∧ x.1.kind.cls = cls :=
  ⟨List.mem_of_find?_eq_some h, by simpa using List.find?_some h⟩

/-- A line operation is granted only if it is placed for the slot and eligible, on an OPERATING rank that has no
rank-wide operation and owes fewer than 8 refreshes. -/
theorem RankSched.decideGrant_line (r : RankSched) (c : SlotChoice) (q i : Nat) (o : LineOp)
    (h : r.decideGrant c q = .line i o) :
    r.placed[i]? = some o ∧ c.takes o = true ∧ r.eligible i o = true ∧ r.state = .operating ∧ r.wide = none
      ∧ r.widePlaced = none ∧ r.debt < 8 := by
  have from_list : ∀ x : LineOp × Nat, x ∈ r.eligibles c → Grant.line x.2 x.1 = .line i o →
      r.placed[i]? = some o ∧ c.takes o = true ∧ r.eligible i o = true := by
    rintro ⟨o', i'⟩ hx he
    have both : i' = i ∧ o' = o := by simpa using he
    rw [← both.1, ← both.2]
    exact (r.mem_eligibles c i' o').1 hx
  simp only [RankSched.decideGrant] at h
  split at h
  · cases h
  rename_i hw
  have wide : r.wide = none := by
    cases hv : r.wide with
    | none => rfl
    | some w => simp [hv] at hw
  split at h
  · split at h <;> cases h
  rename_i placedNone
  split at h
  · cases h
  rename_i operating
  split at h
  · split at h <;> cases h
  rename_i debt
  have lists : r.placed[i]? = some o ∧ c.takes o = true ∧ r.eligible i o = true := by
    simp only [RankSched.lineGrant] at h
    split at h
    · rename_i x hx
      split at hx
      · exact from_list x (r.oldestOf_mem c .move x hx).1 h
      · cases hx
    · simp only [RankSched.hostGrant] at h
      split at h
      · rename_i x hx
        exact from_list x (r.hostChoice_mem c _ x hx) h
      · split at h
        · cases h
        · simp only [RankSched.lowGrant] at h
          split at h
          · rename_i x hx
            exact from_list x (r.oldestOf_mem c .move x hx).1 h
          · split at h
            · rename_i x hx
              exact from_list x (r.oldestOf_mem c .patrol x hx).1 h
            · cases h
  exact ⟨lists.1, lists.2.1, lists.2.2, by simpa using operating, wide, placedNone, by simpa [Config.maxDebt] using debt⟩

/-! ### What a grant changes -/

/-- The place of a scrub write that waits changes the ranks and the patrol step alone. -/
theorem State.placeWaitingScrub_eq (s : State) :
    s.placeWaitingScrub =
      { s with
        ranks := s.placeWaitingScrub.ranks
        patrol := { s.patrol with step := s.placeWaitingScrub.patrol.step } } := by
  simp only [State.placeWaitingScrub]
  split
  · rfl
  · split <;> rfl

/-- A discard changes the ranks, the counters and the patrol step alone. -/
theorem State.discardAt_eq (s : State) (k : RankNo) (i : Nat) (o : LineOp) :
    s.discardAt k i o =
      { s with
        ranks := (s.discardAt k i o).ranks
        counters := (s.discardAt k i o).counters
        patrol := { s.patrol with step := (s.discardAt k i o).patrol.step } } := by
  simp only [State.discardAt]
  split
  · split <;> rfl
  · rw [State.placeWaitingScrub_eq]
    rfl
  · rfl

/-- A grant changes the ranks, the counters and the patrol step alone. -/
theorem State.grantOn_eq (n : Nat) (s : State) (k : RankNo) (c : SlotChoice) :
    State.grantOn n s k c =
      { s with
        ranks := (State.grantOn n s k c).ranks
        counters := (State.grantOn n s k c).counters
        patrol := { s.patrol with step := (State.grantOn n s k c).patrol.step } } := by
  induction n generalizing s c with
  | zero => rfl
  | succ n ih =>
    simp only [State.grantOn]
    split
    · rfl
    · rfl
    · split
      · rw [ih, State.discardAt_eq]
      · simp only [State.grantLine]
        split
        · rw [State.placeWaitingScrub_eq]
          rfl
        · rfl

end Sys2Proof.Machine
end

