-- ==== Sys2Proof/Laws/Store.lean ====
section
/-! SUPPORT. The stored lines (R4, R5, R7; log entry 5): a write is read back, leaves every other line, and keeps the
canonical form. -/

namespace Sys2Proof.Machine

theorem Store.find_write_same (m : Store) (n : Nat) (l : StoredLine) : (m.write n l).find n = some l := by
  induction m with
  | nil => simp [Store.write, Store.find]
  | cons a m ih =>
    obtain ⟨k, x⟩ := a
    simp only [Store.write]
    split
    · simp [Store.find]
    · split
      · simp [Store.find]
      · rename_i h
        simp [Store.find, Ne.symm h, ih]

theorem Store.find_write_other (m : Store) (n k : Nat) (l : StoredLine) (h : k ≠ n) :
    (m.write n l).find k = m.find k := by
  induction m with
  | nil => simp [Store.write, Store.find, Ne.symm h]
  | cons a m ih =>
    obtain ⟨j, x⟩ := a
    simp only [Store.write]
    split
    · simp [Store.find, Ne.symm h]
    · split
      · rename_i h1
        subst h1
        simp [Store.find, Ne.symm h]
      · simp [Store.find, ih]

theorem Store.risesFrom_write (m : Store) (lo n : Nat) (l : StoredLine) (h : Store.risesFrom lo m = true)
    (hn : lo ≤ n) : Store.risesFrom lo (m.write n l) = true := by
  induction m generalizing lo with
  | nil => simp [Store.write, Store.risesFrom, hn]
  | cons a m ih =>
    obtain ⟨k, x⟩ := a
    simp only [Store.risesFrom, Bool.and_eq_true, decide_eq_true_eq] at h
    simp only [Store.write]
    split
    · rename_i hk
      simp only [Store.risesFrom, Bool.and_eq_true, decide_eq_true_eq]
      exact ⟨hn, hk, h.2⟩
    · split
      · rename_i hk
        subst hk
        simp only [Store.risesFrom, Bool.and_eq_true, decide_eq_true_eq]
        exact ⟨hn, h.2⟩
      · simp only [Store.risesFrom, Bool.and_eq_true, decide_eq_true_eq]
        exact ⟨h.1, ih (k + 1) h.2 (by omega)⟩

/-- A write keeps the canonical form. -/
theorem Store.wf_write (m : Store) (n : Nat) (l : StoredLine) (h : m.wf = true) : (m.write n l).wf = true :=
  Store.risesFrom_write m 0 n l h (Nat.zero_le n)

/-- The machine right after reset holds no line, in the canonical form. -/
theorem Store.wf_reset : State.reset.store.wf = true := rfl

/-- No two locations have the same physical line number (R1). -/
theorem Loc.number_inj (l m : Loc) (h : l.number = m.number) : l = m := by
  obtain ⟨k, b, r, c⟩ := l
  obtain ⟨k', b', r', c'⟩ := m
  simp only [Loc.number] at h
  simp only [Loc.mk.injEq, Fin.ext_iff]
  have := b.isLt
  have := b'.isLt
  have := r.isLt
  have := r'.isLt
  have := c.isLt
  have := c'.isLt
  refine ⟨?_, ?_, ?_, ?_⟩ <;> omega

/-- The line of a disturbed location is the one the disturbance left, and of any other the one it was. -/
theorem State.lineAt_disturbed (s : State) (l m : Loc) (d : Option StoredLine) :
    (s.disturbed l d).lineAt m = if m = l then d.getD (s.lineAt l) else s.lineAt m := by
  cases d with
  | none =>
    simp only [State.disturbed, Option.getD_none]
    by_cases h : m = l
    · simp [h]
    · simp [h]
  | some x =>
    simp only [State.disturbed, State.lineAt, Option.getD_some]
    by_cases h : m = l
    · simp [h, Store.find_write_same]
    · rw [Store.find_write_other _ _ _ _ fun e => h (Loc.number_inj _ _ e)]
      simp [h]

/-- A disturbance keeps the canonical form. -/
theorem State.disturbed_wf (s : State) (l : Loc) (d : Option StoredLine) (h : s.store.wf = true) :
    (s.disturbed l d).store.wf = true := by
  cases d with
  | none => exact h
  | some x => exact Store.wf_write _ _ _ h

/-- All that a rank read changes is the store, by a disturbance, and the outcome counters (R7, R10). -/
theorem State.sense_eq (s : State) (l : Loc) (d : Option StoredLine) :
    s.sense l d =
      ({ s with
          store := (s.disturbed l d).store
          counters := s.counters.countRead l.rank (classify ((s.disturbed l d).lineAt l)).outcome },
        classify ((s.disturbed l d).lineAt l)) := by
  cases d <;> rfl

end Sys2Proof.Machine
end

