-- ==== Sys2Proof/Laws/Substitution.lean ====
section
/-! SUPPORT. What the shared operations of the substitution table, the move engine and the mirror controller can do:
allocation, the restart and closing of a job, retirement requests, side counts and repair writes. -/

namespace Sys2Proof.Machine

/-! ### Spare rows and slots (R80) -/

/-- An allocation fails at the end of the spares, and otherwise takes the spare at the cursor and moves it on. -/
theorem State.allocate_eq (s : State) (k : RankNo) (b : BankNo) :
    s.allocate k b =
      (spareAt s.active k s.cursors[cursorIx k b]).map fun r =>
        (r, { s with cursors := s.cursors.set (cursorIx k b) (s.cursors[cursorIx k b] + 1) }) := by
  simp only [State.allocate]
  split <;> simp_all

/-- The slot found is the lowest-numbered FREE one. -/
theorem State.freeSlot_of (s : State) (i : SlotIx) (h : s.lowestFree i) : s.freeSlot = some i := by
  obtain ⟨hi, hl⟩ := h
  simp only [State.freeSlot, slotIxs]
  rw [List.find?_eq_some_iff_append]
  refine ⟨by simp [hi], (List.finRange 64).take i.val, (List.finRange 64).drop (i.val + 1), ?_, ?_⟩
  · have step : (List.finRange 64).drop i.val = i :: (List.finRange 64).drop (i.val + 1) := by
      rw [List.drop_eq_getElem_cons (by simp)]
      simp
    rw [← step, List.take_append_drop]
  · intro n hn
    obtain ⟨m, hm, he⟩ := List.mem_take_iff_getElem.1 hn
    have below : n < i := by
      simp only [List.getElem_finRange] at he
      have hlt : m < i.val := lt_of_lt_of_le hm (Nat.min_le_left _ _)
      rw [← he, Fin.lt_def]
      simpa using hlt
    have taken := hl n below
    cases hs : s.slots[n] with
    | none => exact absurd hs taken
    | some e => simp

/-- No slot is found when none is FREE. -/
theorem State.freeSlot_none (s : State) (h : ∀ i : SlotIx, s.slots[i] ≠ none) : s.freeSlot = none := by
  simp only [State.freeSlot, List.find?_eq_none]
  intro i _
  simpa [Option.isNone_iff_eq_none] using h i

/-- The entries in use are those the slots hold. -/
theorem State.mem_slotsInUse (s : State) (i : SlotIx) (e : SlotEntry) :
    (i, e) ∈ s.slotsInUse ↔ s.slots[i] = some e := by
  simp only [State.slotsInUse, slotIxs, List.mem_filterMap, List.mem_finRange, true_and, Option.map_eq_some_iff,
    Prod.mk.injEq]
  constructor
  · rintro ⟨j, f, h, rfl, rfl⟩
    exact h
  · intro h
    exact ⟨i, e, h, rfl, rfl⟩

/-! ### The job in progress (R111, R112, R113) -/

/-- All that a restart can change: the job, and what the release of its held entry changes. -/
theorem State.restartJob_eq (s : State) (ref : JobRef) (x y : PhysRow) :
    s.restartJob ref x y =
      { s with
        front := (s.restartJob ref x y).front
        engine := (s.restartJob ref x y).engine
        ranks := (s.restartJob ref x y).ranks
        patrol := (s.restartJob ref x y).patrol } := by
  simp only [State.restartJob]
  split
  · rfl
  · rw [State.releaseHeld_eq]

/-- All that a closing can change: the job, and what the release of its held entry changes. -/
theorem State.closeJob_eq (s : State) (ref : JobRef) :
    s.closeJob ref =
      { s with
        front := (s.closeJob ref).front
        engine := (s.closeJob ref).engine
        ranks := (s.closeJob ref).ranks
        patrol := (s.closeJob ref).patrol } := by
  simp only [State.closeJob]
  split
  · rfl
  · split
    · rfl
    · rw [State.releaseHeld_eq]

/-- With a step in flight, a closing leaves the job closed and its step discarded, without what that step had counted. -/
theorem State.closeJob_stepping (s : State) (ref : JobRef) (j : Job) (st : LineStep) (h : s.jobFor ref = some j)
    (hs : j.step = some st) :
    s.closeJob ref =
      { s with engine := { s.engine with
          job := some { j with step := some st.discard, lost := j.lost - j.lossInFlight, closed := true } } }.releaseHeld
        st.held := by
  simp [State.closeJob, h, hs]

/-- With no job in progress for the reference, a closing does nothing. -/
theorem State.closeJob_none (s : State) (ref : JobRef) (h : s.jobFor ref = none) : s.closeJob ref = s := by
  simp [State.closeJob, h]

/-- With no step in flight, a closing drops the job at once. -/
theorem State.closeJob_idle (s : State) (ref : JobRef) (j : Job) (h : s.jobFor ref = some j) (hs : j.step = none) :
    s.closeJob ref = { s with engine := { s.engine with mode := .idle, job := none } } := by
  simp [State.closeJob, h, hs]

/-! ### Retirement requests (R81 to R88) -/

/-- All that a retirement request can change. -/
theorem State.retire_frame (s : State) (fromPort : Bool) (c : Cause) (r : PhysRow) :
    (s.retire fromPort c r).1 =
      { s with
        front := (s.retire fromPort c r).1.front
        slots := (s.retire fromPort c r).1.slots
        cursors := (s.retire fromPort c r).1.cursors
        engine := (s.retire fromPort c r).1.engine
        ranks := (s.retire fromPort c r).1.ranks
        patrol := (s.retire fromPort c r).1.patrol
        tracker := (s.retire fromPort c r).1.tracker
        log := (s.retire fromPort c r).1.log } := by
  simp only [State.retire]
  split
  · simp only [State.refuseRetire]
    split <;> rfl
  · split
    · simp only [State.retarget]
      rw [State.allocate_eq]
      cases spareAt s.active _ _ with
      | none =>
        simp only [Option.map_none, State.refuseRetire]
        split <;> rfl
      | some x => rfl
    · rfl
  · simp only [State.replaceTarget]
    rw [State.allocate_eq]
    cases spareAt s.active _ _ with
    | none =>
      simp only [Option.map_none, State.refuseRetire]
      split
      · rw [State.closeJob_eq]
        split <;> rfl
      · split <;> rfl
    | some x =>
      simp only [Option.map_some]
      split
      · rw [State.restartJob_eq]
        rfl
      · rfl
  · simp only [State.newRetirement]
    split
    · split
      · simp only [State.refuseRetire]
        split <;> rfl
      · rw [State.allocate_eq]
        cases spareAt s.active _ _ with
        | none =>
          simp only [Option.map_none, State.refuseRetire]
          split <;> rfl
        | some x => rfl
    · simp only [State.refuseRetire]
      split <;> rfl

/-- Case (d): a row of no entry in use, of no SPARED region. -/
theorem State.partOf_none (s : State) (r : PhysRow) (h : s.rowApart r) : s.partOf r = .none := by
  have apart : ∀ x ∈ s.slotsInUse, x.2.home ≠ r ∧ x.2.currentRow ≠ r ∧ x.2.nextRow ≠ some r := by
    rintro ⟨i, e⟩ hx
    exact h i e ((s.mem_slotsInUse i e).1 hx)
  have home : (s.slotsInUse.any fun x => decide (x.2.home = r ∧ x.2.currentRow ≠ r)) = false := by
    simp only [List.any_eq_false, decide_eq_true_eq, not_and]
    intro x hx hh
    exact absurd hh (apart x hx).1
  have current : (s.slotsInUse.find? fun x => decide (x.2.currentRow = r)) = none := by
    simp only [List.find?_eq_none, decide_eq_true_eq]
    exact fun x hx => (apart x hx).2.1
  have next : (s.slotsInUse.find? fun x => decide (x.2.nextRow = some r)) = none := by
    simp only [List.find?_eq_none, decide_eq_true_eq]
    exact fun x hx => (apart x hx).2.2
  simp only [State.partOf, home, current, next, Bool.false_eq_true, if_false]

/-! ### Side counts and repair writes (R67, R117, R118) -/

/-- All that a side-count report can do. -/
theorem State.sideReport_cases (s : State) (i : RegionIx) (x : Side) (born : Nat) :
    s.sideReport i x born = s
      ∨ ∃ m, s.mirrors[i] = some m ∧ m.born = born
        ∧ (s.sideReport i x born = s.setMirror i (some (m.raise x))
          ∨ (m.state = .duplex ∧ s.sideReport i x born =
            (s.setMirror i (some { m.raise x with state := simplexOf x.other })).offer
              (.mirrorSideFailed i x .threshold))) := by
  simp only [State.sideReport]
  split
  · exact .inl rfl
  · rename_i m hm
    split
    · exact .inl rfl
    · rename_i hb
      split
      · rename_i hd
        exact .inr ⟨m, hm, by simpa using hb, .inr ⟨hd.1, rfl⟩⟩
      · exact .inr ⟨m, hm, by simpa using hb, .inl rfl⟩

/-- A side-count report is no business of the front link or the ranks. -/
theorem State.sideReport_frame (s : State) (i : RegionIx) (x : Side) (born : Nat) :
    s.sideReport i x born =
      { s with mirrors := (s.sideReport i x born).mirrors, log := (s.sideReport i x born).log } := by
  simp only [State.sideReport]
  split
  · rfl
  · split
    · rfl
    · split <;> rfl

/-- A repair write is placed where there is room for it, and otherwise dropped and counted. -/
theorem State.formRepair_eq (s : State) (la : LineAddr) (i : RegionIx) (side : Side) (data : LineData)
    (mark patrol : Bool) :
    s.formRepair la i side data mark patrol =
      if (s.ranks[(sideLoc side la).rank]).repairs < 15 then
        (s.place { kind := .repairWrite data i side patrol (writeClass s.active la (sideLoc side la)), la := la,
                   loc := sideLoc side la, superseded := mark },
          true)
      else (s.onCounters fun c => { c with repairsDropped := satInc c.repairsDropped }, false) := rfl

/-! ### Corrected reports (R138, R139) -/

/-- All that a corrected report can do: nothing, a retirement request with the row forgotten or not, or a change of the
tracker alone. -/
theorem State.correctedReport_cases (s : State) (r : PhysRow) (i : RegionIx) :
    s.correctedReport r i = s
      ∨ s.correctedReport r i = (s.forgetRow r).retireInternal .threshold r
      ∨ s.correctedReport r i = s.retireInternal .threshold r
      ∨ ∃ t, s.correctedReport r i = { s with tracker := t } := by
  simp only [State.correctedReport]
  split
  · split
    · split
      · exact .inr (.inl rfl)
      · exact .inr (.inr (.inr ⟨_, rfl⟩))
    · split
      · exact .inr (.inr (.inl rfl))
      · exact .inr (.inr (.inr ⟨_, rfl⟩))
  · exact .inl rfl

end Sys2Proof.Machine
end

