-- ==== Sys2Proof/Tests/Slice0.lean ====
section
/-! SUPPORT. Tests: ill-formed commands refused by the checks, the worked examples of the spec, one or two steps for
each command on a small state, and a witness for the hypotheses of each statement of the certificate. -/

namespace Sys2Proof.Tests

open Sys2Proof Sys2Proof.Machine

set_option Elab.async false

/-! ### Small states -/

/-- An entry of the table used here. -/
def entry (rank : Byte) (first last : BitVec 16) (policy : Policy) (patrol : Bool) (threshold : Byte) : RegionEntry :=
  { valid := true, rank := rank, first := first, last := last, policy := policy, patrol := patrol,
    threshold := threshold }

/-- Rank 0: SPARED stripes 0 to 3 and POOL stripes 4 to 6. Rank 2: MIRRORED stripes 0 and 1. Rank 1: CLOSED stripe 0 and
PLAIN stripes 1 and 2. -/
def table : RegionTable :=
  (((((Vector.replicate 8 RegionEntry.reset).set 0 (entry 0 0 3 .spared true 2)).set 1 (entry 0 4 6 .pool false 0)).set
    2 (entry 2 0 1 .mirrored true 0)).set 3 (entry 1 0 0 .closed false 0)).set 4 (entry 1 1 2 .plain true 0)

/-- An OPERATING rank with nothing to do. -/
def up : RankSched :=
  { RankSched.reset with state := .operating, widePlaced := none, timerOn := true }

/-- A mirror record. -/
def record (m : MirrorState) (p x : Nat) : MirrorRecord :=
  { state := m, primaryCount := p, shadowCount := x, born := 1 }

/-- In RUN with every credit held and the table above active; region 2 DUPLEX. -/
def ready : State :=
  { State.reset with
    quiesce := .run
    ranks := Vector.replicate 4 up
    front := { FrontLink.reset with creditsStarted := true, readBalance := 32, writeBalance := 24 }
    active := table
    staged := table
    mirrors := (Vector.replicate 8 none).set 2 (some (record .duplex 0 0))
    commits := 1
    patrol := { interval := 100, cursor := some (0, 0), pass := 0, step := none } }

/-- 64 bytes of one value. -/
def bytes (b : Byte) : LineData := Vector.replicate 64 b

/-- A line with two symbols in error: it reads UNCORRECTABLE. -/
def lost2 : StoredLine := .twoSymbols (bytes 9) 3 17 1 1

/-- Lines of the table: SPARED, POOL, MIRRORED, its shadow range, CLOSED, PLAIN. -/
def sparedLine : LineAddr := 0
def poolLine : LineAddr := 8192
def mirrorLine : LineAddr := 268435456
def shadowLine : LineAddr := 402653184
def closedLine : LineAddr := 134217728
def plainLine : LineAddr := 134219776

/-- The state a command leaves. -/
def after (c : Instr) (s : State) : State :=
  match exec c s with
  | .next t => t
  | .fault _ => s
  | .refused _ => s

/-- The state with a queue of write entries and a tracker of reads. -/
def holding (q : List QueueEntry) (t : List TrackedRead) (s : State) : State :=
  { s with front := { s.front with queue := q, tracker := t } }

/-- The state with a line operation in progress on its bank. -/
def carrying (o : LineOp) (s : State) : State :=
  s.onRank o.loc.rank fun r => { r with banks := r.banks.set o.loc.bank (some o) }

/-- The state with line operations placed on their ranks. -/
def waiting (l : List LineOp) (s : State) : State := l.foldl State.place s

/-- The slot in use. -/
def slotted (i : SlotIx) (e : SlotEntry) (s : State) : State := s.setSlot i (some e)

/-- Row 0 of bank 0 of rank 0, on its way to spare row 4, or there. -/
def moved (phase : SlotPhase) (current : RowNo) : SlotEntry :=
  { home := { rank := 0, bank := 0, row := 0 }, current := current, phase := phase, cause := .management, lost := 0 }

/-- A job in progress. -/
def job (ref : JobRef) (ends : JobEnds) (length p : Nat) (step : Option LineStep) : Job :=
  { ref := ref, ends := ends, length := length, p := p, step := step, lost := 0, closed := false }

/-- A line step of a row move of row 0 of bank 0 of rank 0 to row 4. -/
def step0 (p : Nat) (phase : StepPhase) (held : Option LineAddr) (discarded : Bool) : LineStep :=
  { position := p, la := Fin.ofNat 536870912 p, source := { rank := 0, bank := 0, row := 0, col := Fin.ofNat 128 p },
    target := { rank := 0, bank := 0, row := 4, col := Fin.ofNat 128 p }, phase := phase, held := held,
    discarded := discarded, lost := false }

/-- That row move as a job. -/
def rowJob (p : Nat) (step : Option LineStep) : Job :=
  job (.rowMove 0) (.rows { rank := 0, bank := 0, row := 0 } { rank := 0, bank := 0, row := 4 }) 128 p step

/-- The engine RUNNING a job. -/
def engaged (j : Job) (s : State) : State :=
  { s with engine := { mode := .running, job := some j, queue := [] } }

/-- The row move in progress with its slot COPYING. -/
def copying (p : Nat) (step : Option LineStep) (s : State) : State :=
  engaged (rowJob p step) (slotted 0 (moved (.copying 4) 0) s)

/-- A mirror record of region 2 in a state. -/
def mirror (m : MirrorState) (p x : Nat) (s : State) : State := s.setMirror 2 (some (record m p x))

/-- Admission CLOSED by CLOSE_FRONT. -/
def shut (s : State) : State :=
  { s with front := { s.front with admission := .closed, readBalance := 0, writeBalance := 0 } }

/-- A patrol step of region `i`. -/
def patrolling (i : RegionIx) (treat : PatrolTreat) (la : LineAddr) (first : Option FirstRead) (s : State) : State :=
  { s with patrol := { s.patrol with
      step := some { region := i, treat := treat, la := la, outstanding := 1, first := first, waiting := none } } }

/-- The event log with records of PATROL_PASS, numbered from 0. -/
def logged (n lost : Nat) (s : State) : State :=
  { s with log :=
      { records := (List.range n).map fun i => { seq := BitVec.ofNat 16 i, event := .patrolPass 1 }
        nextSeq := BitVec.ofNat 16 n, lost := lost, mask := 0x0A4A, alert := false } }

/-! ### Ill-formed commands -/

theorem test_wf_disturbance : (Instr.hostReadComplete 0 0 (some (.oneSymbol .poison 0 0))).wellFormed = false := by decide
theorem test_wf_failover : (Instr.failoverReadComplete 0 0 (some (.oneSymbol .poison 0 0))).wellFormed = false := by
  decide
theorem test_wf_merge : (Instr.mergeReadComplete 0 0 (some (.oneSymbol .poison 0 0))).wellFormed = false := by decide
theorem test_wf_patrol : (Instr.patrolReadComplete 0 0 (some (.oneSymbol .poison 0 0))).wellFormed = false := by decide
theorem test_wf_move : (Instr.moveReadComplete 0 0 (some (.oneSymbol .poison 0 0))).wellFormed = false := by decide
theorem test_wf_two_symbols :
    (Instr.hostReadComplete 0 0 (some (.twoSymbols (bytes 9) 3 3 1 1))).wellFormed = false
      ∧ (Instr.hostReadComplete 0 0 (some (.twoSymbols (bytes 9) 3 4 1 0))).wellFormed = false
      ∧ (Instr.hostReadComplete 0 0 (some lost2)).wellFormed = true := by decide
theorem test_wf_retire_flag : (Instr.retireRow 0 0 0 1).wellFormed = false := by decide
theorem test_wf_empty_frame : (Instr.commandFrameInvalid []).wellFormed = false := by decide
theorem test_wf_good_frame : (Instr.commandFrameInvalid [0x22, 0x01, 0x05, 0xD8]).wellFormed = false := by decide
theorem test_wf_accepts : (Instr.commandFrameInvalid [0x22, 0x01, 0x05, 0xD9]).wellFormed = true
    ∧ (Instr.retireRow 0 0 0 2).wellFormed = true
    ∧ (Instr.hostReadComplete 0 0 (some (.oneSymbol .poison 0 1))).wellFormed = true := by decide

/-! ### Worked examples of the spec -/

/-- Section 1.1: line address 300,000,000 is rank 2, bank 6, row 15,412, column 0; 5,000,123 is rank 0, bank 7, row
2,441, column 59. -/
theorem test_decompose :
    homeLoc 300000000 = { rank := 2, bank := 6, row := 15412, col := 0 }
      ∧ homeLoc 5000123 = { rank := 0, bank := 7, row := 2441, col := 59 } := by decide

/-- Section 1.2: the shadow of 300,000,000 lies on rank 3; its own line address is 434,217,728. -/
theorem test_shadow_place :
    sideLoc .shadow 300000000 = homeLoc 434217728 := by decide

/-- Section 11.2: RELEASE_SLOT of slot 5 is the frame 22 01 05 D8. -/
theorem test_release_frame :
    decodeFrame [0x22, 0x01, 0x05, 0xD8] = some (.releaseSlot 5)
      ∧ encodeFrame (.releaseSlot 5) = some [0x22, 0x01, 0x05, 0xD8] := by decide

/-- Section 11.2: with its check byte sent as D9 the frame is answered BAD_FRAME. -/
theorem test_bad_frame :
    (after (.commandFrameInvalid [0x22, 0x01, 0x05, 0xD9]) ready).port.response = [0x01, 0x00, 0xFF] := by
  decide +kernel

/-- GET_STATUS of page 0, SET_PATROL of 100, and RETIRE_ROW of row 12,345 of bank 3 of rank 1, as the spec writes
them. -/
theorem test_frames :
    encodeFrame (.getStatus 0) = some [0x01, 0x01, 0x00, 0xFE]
      ∧ encodeFrame (.setPatrol 100) = some [0x40, 0x02, 0x00, 0x64, 0x5A]
      ∧ encodeFrame (.retireRow 1 3 12345 0) = some [0x21, 0x05, 0x01, 0x03, 0x30, 0x39, 0x00, 0x6D]
      ∧ decodeFrame [0x21, 0x05, 0x01, 0x03, 0x30, 0x39, 0x01, 0x6C] = some (.retireRowNoCopy 1 3 12345) := by decide

/-- A repeated START discards the frame before it, a warm or power-on reset drops the frame it falls upon, and the port
takes only its own address, that of the straps last sampled (R162, R163); a read of the IDLE frame beyond its check byte gives 0xFF (R166). -/
theorem test_bus :
    let frame : List BusEvent := [.byte 0x22, .byte 0x01, .byte 0x05, .byte 0xD8]
    let taken := State.reset.busView.commandAtStop
    taken (.start 0x58 true :: .start 0x58 false :: frame) = some (.releaseSlot 5)
      ∧ taken (.start 0x58 false :: frame ++ [.start 0x58 true]) = none
      ∧ taken (.start 0x58 false :: .byte 0x22 :: .start 0x58 false :: frame) = some (.releaseSlot 5)
      ∧ taken (.start 0x58 false :: .byte 0x22 :: .byte 0x01 :: .resetAsserted :: .resetReleased
        :: [.byte 0x05, .byte 0xD8]) = none
      ∧ taken (.start 0x58 false :: .byte 0x22 :: .byte 0x01 :: .powerOnAsserted :: .powerOnReleased 0
        :: [.byte 0x05, .byte 0xD8]) = none
      ∧ taken (.powerOnAsserted :: .start 0x58 false :: frame) = none
      ∧ taken (.powerOnAsserted :: .powerOnReleased 3 :: .start 0x5B false :: frame) = some (.releaseSlot 5)
      ∧ taken (.start 0x59 false :: frame) = none ∧ taken [.start 0x58 false] = none
      ∧ (acknowledgesByte 31, acknowledgesByte 32) = (true, false)
      ∧ State.reset.port.readOut 5 = [0x08, 0x00, 0xF8, 0xFF, 0xFF]
      ∧ State.reset.port.readOut 2 = [0x08, 0x00] := by
  decide +kernel

/-- The table has no bits for any row: no word spells a command (log entry 2). -/
theorem test_no_words : decodeTableWord 32 0 = none := by decide

/-! ### One step of each command

Expected results come from the rules named, or from the worked sequences of the chapters. -/

/-- R43, and event 1 of section 3.9: a READ with no entry for its line waits, its credit taken. -/
theorem test_read : (after (.read 1 sparedLine) ready).front.tracker = [{ tag := 1, la := sparedLine, state := .waiting }]
    ∧ (after (.read 1 sparedLine) ready).front.readBalance = 31 := by decide +kernel

/-- R39: a POOL line is refused and the refusal counted and logged. -/
theorem test_read_refused : (after (.read 1 poolLine) ready).sent = [.refusal 1 .pool]
    ∧ (after (.read 1 poolLine) ready).counters.pool = 1
    ∧ (after (.read 1 poolLine) ready).front.readBalance = 32 := by decide +kernel

/-- R47, and event 2 of section 3.9. -/
theorem test_write : (after (.write 2 sparedLine (bytes 7)) ready).sent = [.writeAck 2 .done]
    ∧ (after (.write 2 sparedLine (bytes 7)) ready).front.queue
      = [{ la := sparedLine, state := .queued (.data (bytes 7)) }] := by decide +kernel

/-- R48: a MASKED WRITE on a poison entry is acknowledged MERGED_POISON. -/
theorem test_masked_on_poison :
    (after (.maskedWrite 3 sparedLine 1 (bytes 7)) (holding [{ la := sparedLine, state := .queued .poison }] [] ready)).sent
      = [.writeAck 3 .mergedPoison] := by decide +kernel

/-- R49, and event 13 of section 3.9: bytes 8 to 15 are merged at once from an ISSUED entry. -/
theorem test_masked_on_issued :
    ((after (.maskedWrite 3 sparedLine 0xFF00 (bytes 7))
        (holding [{ la := sparedLine, state := .issued (.data (bytes 1)) 1 }] [] ready)).front.queue.map (·.state))
      = [.issued (.data (bytes 1)) 1,
         .queued (.data (Vector.ofFn fun i : Fin 64 => if 8 ≤ i.val ∧ i.val < 16 then 7 else 1))] := by decide +kernel

/-- R37, and event 8 of section 3.9. -/
theorem test_credit :
    (after .credit { ready with front := { ready.front with readBalance := 30, readOwed := 1 } }).sent = [.credit 1 0 false]
      ∧ (after .credit { ready with front := { ready.front with readBalance := 30, readOwed := 1 } }).front.readBalance
        = 31 := by decide +kernel

/-- R44, R64: a read of a DUPLEX region goes to the primary. -/
theorem test_issue_read :
    ((after (.issueRead 1) (holding [] [{ tag := 1, la := mirrorLine, state := .waiting }] ready)).ranks[2]).placed
      = [placedOp (.hostRead 1 (.mirrored 2 .primary true 1)) mirrorLine { rank := 2, bank := 0, row := 0, col := 0 }] := by
  decide +kernel

/-- R49 case 3. -/
theorem test_merge_read_issue :
    ((after (.mergeReadIssue 4)
        (holding [{ la := sparedLine, state := .merging 4 1 (bytes 7) false }] [] ready)).ranks[0]).placed
      = [placedOp (.mergeRead 4 (.spared 0)) sparedLine { rank := 0, bank := 0, row := 0, col := 0 }] := by decide +kernel

/-- R61, and event 3 of section 4.9: below the pointer a write goes to source and target. -/
theorem test_entry_issue_below :
    ((after (.writeEntryIssue 39)
        (copying 40 (some (step0 40 .reading none false))
          (holding [{ la := 39, state := .queued .poison }] [] ready))).ranks[0]).placed.map (·.loc)
      = [{ rank := 0, bank := 0, row := 0, col := 39 }, { rank := 0, bank := 0, row := 4, col := 39 }] := by decide +kernel

/-- R56, R64: each half of a DUPLEX write carries its routing class, the region index and its side. -/
theorem test_entry_issue_mirrored :
    let s := after (.writeEntryIssue mirrorLine) (holding [{ la := mirrorLine, state := .queued .poison }] [] ready)
    (s.ranks[2]).placed.map (·.kind) = [.entryWrite .poison (.mirrored 2 .primary)]
      ∧ (s.ranks[3]).placed.map (·.kind) = [.entryWrite .poison (.mirrored 2 .shadow)] := by decide +kernel

/-- R61, and event 2 of section 4.9: at the pointer with the step in flight it is held. -/
theorem test_entry_issue_held :
    (after (.writeEntryIssue 40)
        (copying 40 (some (step0 40 .reading none false))
          (holding [{ la := 40, state := .queued .poison }] [] ready))).engine.job
      = some (rowJob 40 (some (step0 40 .reading (some 40) false))) := by decide +kernel

/-- R8, R72: a CORRECTED host read is answered and its row reported. -/
theorem test_host_read_corrected :
    let s := after (.hostReadComplete 0 0 (some (.oneSymbol (.data (bytes 9)) 17 1)))
      (carrying (placedOp (.hostRead 1 (.spared 0)) sparedLine (homeLoc sparedLine))
        (holding [] [{ tag := 1, la := sparedLine, state := .issued }] ready))
    s.sent = [.readData 1 (bytes 9) .corrected]
      ∧ s.tracker = [{ row := homeRow sparedLine, region := 0, count := 1 }]
      ∧ (s.counters.outcomes[0]).corrected = 1 := by decide +kernel

/-- Events 4 and 5 of section 7.7: the report that fails the primary, then the failover read on the shadow. -/
theorem test_host_read_fails_over :
    let s := after (.hostReadComplete 2 0 (some lost2))
      (carrying (placedOp (.hostRead 1 (.mirrored 2 .primary true 1)) mirrorLine (homeLoc mirrorLine))
        (holding [] [{ tag := 1, la := mirrorLine, state := .issued }] (mirror .duplex 3 3 ready)))
    s.mirrors[2] = some (record .simplexShadow 4 3) ∧ s.sent = [] ∧ s.counters.failoverReads = 1
      ∧ (s.ranks[3]).placed.map (·.kind) = [.failoverRead 1 false 2 1] := by decide +kernel

/-- Event 2 of section 7.7: a CLEAN failover read answers the host and places a repair write on the primary. -/
theorem test_failover_read :
    let s := after (.failoverReadComplete 3 0 (some (.intact (.data (bytes 9)))))
      (carrying (placedOp (.failoverRead 1 false 2 1) mirrorLine (sideLoc .shadow mirrorLine))
        (holding [] [{ tag := 1, la := mirrorLine, state := .issued }] ready))
    s.sent = [.readData 1 (bytes 9) .ok]
      ∧ (s.ranks[2]).placed = [placedOp (.repairWrite (bytes 9) 2 .primary false (.mirrored 2 .primary)) mirrorLine (homeLoc mirrorLine)] := by
  decide +kernel

/-- Event 7 of section 3.9: a merge read that completes UNCORRECTABLE. -/
theorem test_merge_read :
    (after (.mergeReadComplete 0 0 (some lost2))
      (carrying (placedOp (.mergeRead 4 .plain) sparedLine (homeLoc sparedLine))
        (holding [{ la := sparedLine, state := .merging 4 1 (bytes 7) true }]
          [{ tag := 5, la := sparedLine, state := .heldForMerge 4 }] ready))).sent
      = [.writeAck 4 .mergedPoison, .readData 5 (bytes 0) .poisoned] := by decide +kernel

/-- R52, and event 14 of section 3.9. -/
theorem test_entry_write :
    let s := after (.entryWriteComplete 0 0)
      (carrying (placedOp (.entryWrite (.data (bytes 3)) .spared) sparedLine (homeLoc sparedLine))
        (holding [{ la := sparedLine, state := .issued (.data (bytes 3)) 1 }] [] ready))
    s.front.queue = [] ∧ s.front.writeOwed = 1 ∧ s.store = [(0, .intact (.data (bytes 3)))] := by decide +kernel

/-- R145: reads before writes while fewer than 16 entries are queued. -/
theorem test_grant_reads_first :
    ((after (.schedulerGrant 1) (waiting
        [placedOp (.entryWrite .poison .plain) plainLine (homeLoc plainLine),
         placedOp (.hostRead 1 .plain) (plainLine + 1) (homeLoc (plainLine + 1))] ready)).ranks[1]).placed.length = 1
      ∧ (((after (.schedulerGrant 1) (waiting
        [placedOp (.entryWrite .poison .plain) plainLine (homeLoc plainLine),
         placedOp (.hostRead 1 .plain) (plainLine + 1) (homeLoc (plainLine + 1))] ready)).ranks[1]).banks[0]).map (·.kind)
        = some (.hostRead 1 .plain) := by decide +kernel

/-- R69: a superseded repair write is discarded at its grant. -/
theorem test_grant_discards :
    let s := after (.schedulerGrant 2) (waiting
      [{ placedOp (.repairWrite (bytes 9) 2 .primary false (.mirrored 2 .primary)) mirrorLine (homeLoc mirrorLine) with superseded := true }] ready)
    s.counters.repairsSuperseded = 1 ∧ (s.ranks[2]).placed = [] ∧ (s.ranks[2]).banks[0] = none := by decide +kernel

/-- R145: after a discard the order is applied again for that slot alone; the read of another bank waits. -/
theorem test_grant_discards_one_slot :
    let other : LineOp := placedOp (.patrolRead .single) (mirrorLine + 128) (homeLoc (mirrorLine + 128))
    let s := after (.schedulerGrant 2) (waiting
      [{ placedOp (.repairWrite (bytes 9) 2 .primary false (.mirrored 2 .primary)) mirrorLine (homeLoc mirrorLine) with superseded := true }, other]
      ready)
    (s.ranks[2]).placed = [other] ∧ (after (.schedulerGrant 2) s).ranks[2].placed = [] := by decide +kernel

/-- Event 3 of section 7.7. -/
theorem test_repair_write :
    let s := after (.repairWriteComplete 2 0)
      (carrying (placedOp (.repairWrite (bytes 9) 2 .primary false (.mirrored 2 .primary)) mirrorLine (homeLoc mirrorLine)) ready)
    s.counters.repairsWritten = 1
      ∧ s.log.records.map (·.event) = [.resetSeen false, .mirrorRepaired 2 .primary (homeLoc mirrorLine)] := by
  decide +kernel

/-- R136. -/
theorem test_scrub_write :
    let s := after (.scrubWriteComplete 0 0)
      (carrying (placedOp (.scrubWrite (bytes 9) .spared) sparedLine (homeLoc sparedLine))
        (patrolling 0 .spared sparedLine none ready))
    s.counters.scrubWrites = 1 ∧ s.patrol.step = none := by decide +kernel

/-- R147: the ninth refresh owed is late. -/
theorem test_refresh_late :
    let s := after (.refreshTimerExpiry 1) (ready.onRank 1 fun r => { r with debt := 8 })
    s.counters.refreshLate[1] = 1 ∧ (s.ranks[1]).debt = 8 := by decide +kernel

/-- R142. -/
theorem test_refresh_complete :
    ((after (.refreshComplete 1) (ready.onRank 1 fun r => { r with wide := some .refresh })).ranks[1]).wide = none := by
  decide +kernel

/-- R133: a step of a SPARED region reads its row, and the cursor moves past the position. -/
theorem test_patrol_expiry :
    let s := after .patrolTimerExpiry ready
    s.patrol.cursor = some (0, 1)
      ∧ (s.ranks[0]).placed = [placedOp (.patrolRead .single) sparedLine (homeLoc sparedLine)] := by decide +kernel

/-- R131: with the row COPYING its 128 positions are passed over. -/
theorem test_patrol_passes_over :
    (after .patrolTimerExpiry (copying 0 none ready)).patrol.cursor = some (0, 129) := by decide +kernel

/-- R134, R136: a CORRECTED patrol read places a scrub write. -/
theorem test_patrol_read :
    let s := after (.patrolReadComplete 0 0 (some (.oneSymbol (.data (bytes 9)) 0 1)))
      (carrying (placedOp (.patrolRead .single) sparedLine (homeLoc sparedLine))
        (patrolling 0 .spared sparedLine none ready))
    (s.ranks[0]).placed = [placedOp (.scrubWrite (bytes 9) .spared) sparedLine (homeLoc sparedLine)]
      ∧ s.tracker.length = 1 := by decide +kernel

/-- R101. -/
theorem test_job_start :
    let s := after .jobStart (slotted 0 (moved (.pending 4) 0)
      { ready with engine := { ready.engine with queue := [.rowMove 0] } })
    s.engine = { mode := .running, job := some (rowJob 0 none), queue := [] }
      ∧ s.slots[0] = some (moved (.copying 4) 0) := by decide +kernel

/-- R103: a step waits for the entry of its line that is ISSUED. -/
theorem test_step_waits :
    (after .lineStepBegin (copying 5 none (holding [{ la := 5, state := .issued .poison 1 }] [] ready))).engine.job
        = some (rowJob 5 none)
      ∧ (after .lineStepBegin (copying 5 none ready)).engine.job
        = some (rowJob 5 (some (step0 5 .reading none false))) := by decide +kernel

/-- Event 4 of section 6.10: an UNCORRECTABLE move read. -/
theorem test_move_read :
    let s := after (.moveReadComplete 0 0 (some lost2))
      (carrying (placedOp .moveRead 62 (homeLoc 62)) (copying 62 (some (step0 62 .reading none false)) ready))
    (s.ranks[0]).placed.map (·.kind) = [.targetWrite .poison] ∧ (s.slots[0]).map (·.lost) = some 1
      ∧ s.log.records.map (·.event) = [.resetSeen false, .uncorrectable .copy (homeLoc 62)] := by decide +kernel

/-- Event 6 of section 5.7: the target write of column 127. -/
theorem test_target_write_last :
    let s := after (.targetWriteComplete 0 0)
      (carrying (placedOp (.targetWrite .poison) 127 { rank := 0, bank := 0, row := 4, col := 127 })
        (copying 127 (some (step0 127 .writing none false)) ready))
    s.engine = { mode := .idle, job := none, queue := [] } ∧ s.slots[0] = some (moved .active 4)
      ∧ s.log.records.map (·.event) = [.resetSeen false, .moveDone 0 0] := by decide +kernel

/-- Event 12 of section 6.10: in DRAINING the step ends PAUSED and its held entry is placed at both rows. -/
theorem test_target_write_held :
    let s := after (.targetWriteComplete 0 0)
      (carrying (placedOp (.targetWrite .poison) 63 { rank := 0, bank := 0, row := 4, col := 63 })
        (copying 63 (some (step0 63 .writing (some 63) false))
          (holding [{ la := 63, state := .held (.data (bytes 2)) }] [] { ready with quiesce := .draining })))
    s.engine.mode = .paused ∧ s.front.queue = [{ la := 63, state := .issued (.data (bytes 2)) 2 }]
      ∧ (s.ranks[0]).placed.map (·.loc.row) = [0, 4] := by decide +kernel

/-- R149. -/
theorem test_qreq : (after .qreqAssert ready).quiesce = .draining
    ∧ (after .qreqDeassert (after .qreqAssert ready)).quiesce = .run := by decide +kernel

/-- R149, R150. -/
theorem test_drain : (after .drainComplete { ready with quiesce := .draining }).quiesce = .entering
    ∧ ((after .drainComplete { ready with quiesce := .draining }).ranks[3]).widePlaced = some .entry := by decide +kernel

/-- R150: the last rank to enter self-refresh asserts QACK_N. -/
theorem test_entry_complete :
    let s := after (.selfRefreshEntryComplete 0)
      { ready with
        quiesce := .entering
        qreq := true
        ranks := (Vector.replicate 4 { up with state := .selfRefresh }).set 0 { up with wide := some .entry } }
    s.quiesce = .asleep ∧ s.qack = true := by decide +kernel

/-- R151. -/
theorem test_exit_complete :
    let s := after (.selfRefreshExitComplete 0)
      { ready with
        quiesce := .waking
        ranks := (Vector.replicate 4 up).set 0 { up with state := .selfRefresh, wide := some .exit } }
    s.quiesce = .run ∧ (s.ranks[0]).state = .operating := by decide +kernel

/-- R38, R148: the last rank initialized leads to RUN and the initial CREDIT. -/
theorem test_init_complete :
    let s := after (.rankInitComplete 0)
      { State.reset with ranks := (Vector.replicate 4 up).set 0 { RankSched.reset with widePlaced := none, wide := some .init } }
    s.quiesce = .run ∧ s.sent = [.credit 32 24 true] ∧ s.front.readBalance = 32 := by decide +kernel

/-- R162: the straps select the address. -/
theorem test_power_on : (after (.powerOnReset 3) ready).port.address = 0x5B
    ∧ (after (.powerOnReset 3) ready).active = State.reset.active := by decide +kernel

/-- R75, R137: an operation in progress at power-on reset finishes; a write stores its line. -/
theorem test_power_on_finishes :
    let s := after (.powerOnReset 0) (carrying (placedOp (.scrubWrite (bytes 9) .spared) sparedLine (homeLoc sparedLine)) ready)
    s.store = [] ∧ (s.ranks[0]).widePlaced = some .init
      ∧ (after (.scrubWriteComplete 0 0) s).store = [(0, .intact (.data (bytes 9)))]
      ∧ (after (.scrubWriteComplete 0 0) s).counters = .zero := by decide +kernel

/-- R98: a COPYING slot is PENDING again, its job queued. -/
theorem test_warm_assert :
    let s := after .warmResetAssert (copying 40 none ready)
    s.engine = { mode := .idle, job := none, queue := [.rowMove 0] } ∧ s.slots[0] = some (moved (.pending 4) 0) := by
  decide +kernel

/-- R152, R161: from OPERATING ranks the release leads to RUN, with RESET_SEEN (WARM) stored. -/
theorem test_warm_release :
    let s := after .warmResetRelease (after .warmResetAssert ready)
    s.quiesce = .run ∧ s.log.records.map (·.event) = [.resetSeen false, .resetSeen true]
      ∧ s.sent = [.credit 32 24 true] := by decide +kernel

/-- Section 11.6: page 0 after power-on reset: OPEN, no credits, INIT, four ranks INITIALIZING. -/
theorem test_get_status : (after (.getStatus 0) State.reset).port.response
    = [0x00, 0x17, 1, 0, 0, 0, 0, 0, 0, 0, 0, 0, 0, 0, 0, 0, 0, 0, 0, 0, 0, 0, 0, 0, 0, 0xE8] := by decide +kernel

/-- R167: a page above 2 is BAD_ARG. -/
theorem test_get_status_bad : (after (.getStatus 3) ready).port.response = [0x04, 0x00, 0xFC] := by decide +kernel

/-- Section 11.6: group 5 holds the refresh late counters, most significant byte first. -/
theorem test_get_counters :
    (after (.getCounters 5) (ready.onCounters fun c => { c with refreshLate := c.refreshLate.set 0 0x01020304 })).port.response
      = [0x00, 0x10, 1, 2, 3, 4, 0, 0, 0, 0, 0, 0, 0, 0, 0, 0, 0, 0, 0xE6] := by decide +kernel

/-- R168. -/
theorem test_clear_counters :
    (after .clearCounters (ready.onCounters fun c => { c with pool := 5 })).counters = .zero := by decide +kernel

/-- R15: the patrol flag of a POOL entry and the threshold of any but SPARED are stored off and 0. -/
theorem test_stage : (after (.stageRegion 5 1 3 7 9 3 1 8) ready).staged[5] = entry 3 7 9 .pool false 0
    ∧ (after (.stageRegion 5 2 3 7 9 3 1 8) ready).staged = ready.staged := by decide +kernel

/-- R16, section 11.6. -/
theorem test_read_region : (after (.readRegion 0 0) ready).port.response
    = [0x00, 0x09, 1, 0, 0, 0, 0, 3, 1, 1, 2, 0xEF] := by decide +kernel

/-- R24: an entry over the shadow range of a MIRRORED one is refused OVERLAP. -/
theorem test_commit_overlap :
    (after .commitRegions { ready with staged := ready.staged.set 5 (entry 3 1 1 .plain false 0) }).port.response
      = [0x06, 0x02, 0x02, 0x05, 0xF1] := by decide +kernel

/-- R30: a new mirrored region begins in REBUILD_SHADOW with its RESYNC queued. -/
theorem test_commit_mirror :
    let s := after .commitRegions { ready with staged := ready.staged.set 5 (entry 0 100 101 .mirrored false 0) }
    (s.mirrors[5]).map (·.state) = some .rebuildShadow ∧ s.engine.queue = [.resync 5]
      ∧ s.mirrors[2] = ready.mirrors[2] := by decide +kernel

/-- R96, section 11.6. -/
theorem test_read_slot : (after (.readSlot 0) (slotted 0 (moved (.pending 4) 0) ready)).port.response
    = [0x00, 0x0D, 1, 0, 0, 0, 0, 0, 0, 1, 0, 4, 2, 0, 0, 0xEB] := by decide +kernel

/-- R87, R93: a new retirement takes slot 0 and the lowest spare, row 4. -/
theorem test_retire_row :
    let s := after (.retireRow 0 3 2 0) ready
    s.port.response = [0x00, 0x04, 0, 0, 0, 4, 0xF8] ∧ s.engine.queue = [.rowMove 0]
      ∧ s.log.records.map (·.event)
        = [.resetSeen false, .retireStarted 0 { rank := 0, bank := 3, row := 2 } .management] := by decide +kernel

/-- R83: an ACTIVE entry whose location fails is re-targeted. -/
theorem test_retire_retarget :
    let s := after (.retireRow 0 0 4 0)
      { slotted 0 (moved .active 4) ready with cursors := ready.cursors.set 0 1 }
    s.port.response = [0x00, 0x04, 0, 1, 0, 5, 0xF6]
      ∧ s.slots[0] = some { moved (.pending 5) 4 with cause := .targetFailed } := by decide +kernel

/-- R86, R90, R112: a copy abandoned while the step that lost a line is in flight keeps the count without that line. -/
theorem test_retire_abandons :
    let st : LineStep := { step0 40 .writing none false with lost := true }
    let s := after (.retireRow 0 0 5 0)
      { engaged { job (.rowMove 0) (.rows { rank := 0, bank := 0, row := 4 } { rank := 0, bank := 0, row := 5 }) 128 40 (some st)
            with lost := 3 }
          (slotted 0 { moved (.copying 5) 4 with lost := 3 } ready) with cursors := Vector.replicate 64 3 }
    s.slots[0] = some { moved .active 4 with lost := 2 } ∧ s.engine.job.map (·.lost) = some 2
      ∧ s.port.response = [0x06, 0x02, 0x06, 0xFF, 0xF3] := by decide +kernel

/-- R94. -/
theorem test_retire_no_copy :
    (after (.retireRowNoCopy 0 3 2) (shut ready)).slots[0]
      = some { home := { rank := 0, bank := 3, row := 2 }, current := 4, phase := .active, cause := .management, lost := 0 }
    ∧ (after (.retireRowNoCopy 0 3 2) ready).port.response = [0x06, 0x02, 0x08, 0xFF, 0xF1] := by decide +kernel

/-- The frame worked out in section 11.6: OK when CLOSED and ACTIVE, REFUSED NOT_CLOSED when OPEN. -/
theorem test_release_slot :
    (after (.releaseSlot 5) (slotted 5 (moved .active 4) (shut ready))).port.response = [0x00, 0x00, 0x00]
      ∧ (after (.releaseSlot 5) (slotted 5 (moved .active 4) ready)).port.response
        = [0x06, 0x02, 0x08, 0xFF, 0xF1] := by decide +kernel

/-- R96, section 11.6: cursor 0, three spares, the next one row 4. -/
theorem test_read_cursor : (after (.readCursor 0 3) ready).port.response
    = [0x00, 0x0B, 0, 0, 0, 0, 0, 0, 0, 3, 1, 0, 4, 0xED] := by decide +kernel

/-- R126, section 11.6: a region being rebuilt whose RESYNC waits in the queue. -/
theorem test_read_mirror :
    (after (.readMirror 2) { mirror .rebuildShadow 1 4 ready with
      engine := { ready.engine with queue := [.resync 2] } }).port.response
      = [0x00, 0x10, 4, 1, 4, 1, 0, 0, 0, 0, 0, 0, 0, 0, 0, 0, 0, 0, 0xE6] := by decide +kernel

/-- R120, and event 7 of section 7.7. -/
theorem test_fail_side :
    (after (.failSide 2 1) (mirror .simplexShadow 4 4 ready)).port.response = [0x06, 0x02, 0x09, 0xFF, 0xF0]
      ∧ (after (.failSide 2 1) ready).mirrors[2] = some (record .simplexPrimary 0 0) := by decide +kernel

/-- R121, and event 8 of section 7.7. -/
theorem test_resync :
    let s := after (.resyncRegion 2) (mirror .simplexShadow 4 4 ready)
    s.mirrors[2] = some (record .rebuildPrimary 4 4) ∧ s.engine.queue = [.resync 2]
      ∧ s.port.response = [0x00, 0x01, 0x05, 0xFA] := by decide +kernel

/-- R128. -/
theorem test_set_patrol : (after (.setPatrol 0x1234) ready).patrol = { ready.patrol with interval := 0x1234 } := by
  decide +kernel

/-- R140, section 11.6. -/
theorem test_read_tracker :
    (after (.readTracker 0) { ready with
      tracker := [{ row := { rank := 1, bank := 2, row := 0x0304 }, region := 5, count := 6 }] }).port.response
      = [0x00, 0x08, 1, 1, 1, 2, 3, 4, 5, 6, 0xE1] := by decide +kernel

/-- Event 4 of section 10.6: the pop after losses appends LOG_LOST and asserts ALERT_N. -/
theorem test_pop_after_loss :
    let s := after .popEvent (logged 32 2 ready)
    s.log.records.length = 32 ∧ s.log.lost = 0 ∧ s.log.alert = true
      ∧ s.log.records.getLast? = some { seq := 32, event := .logLost 2 } := by decide +kernel

/-- R157, section 11.6: RESET_SEEN (COLD) peeked. -/
theorem test_peek : (after .peekEvent ready).port.response
    = [0x00, 0x0F, 1, 0, 0, 0, 0, 1, 0, 0, 0, 0, 0, 0, 0, 0, 0, 0xEF] := by decide +kernel

/-- R159: an event held asserts the line when its kind is enabled; a flag outside the kinds is BAD_ARG. -/
theorem test_alert_mask : (after (.setAlertMask 0x0001) ready).log.alert = true
    ∧ (after (.setAlertMask 0x1000) ready).port.response = [0x04, 0x00, 0xFC] := by decide +kernel

/-- R34, R35. -/
theorem test_close_open : (after .closeFront ready).front.readBalance = 0
    ∧ (after .openFront (after .closeFront ready)).sent = [.credit 32 24 true] := by decide +kernel

/-! ### Witnesses

For each statement of the certificate that has hypotheses, a concrete state and operands that meet them together, clause
by clause, at the ends of the ranges where a range is meant. -/

theorem witness_StepTakesFront : State.reset.pending = [] := rfl

theorem witness_FramesSpellCommands :
    (Instr.releaseSlot 5).wellFormed = true ∧ encodeFrame (.releaseSlot 5) = some [0x22, 0x01, 0x05, 0xD8]
      ∧ (Instr.commandFrameInvalid [0x00]).wellFormed = true
      ∧ encodeFrame (.commandFrameInvalid [0x00]) = some [0x00] ∧ ([0x00] : List Byte) ≠ [] := by decide

/-- One frame for each check: two bytes; 33 bytes; a length that is not the count; a sum; a code; a length of the code;
and the longest frame that passes. -/
theorem witness_FrameChecksInOrder :
    ready.resetN = false ∧ frameFailure [0x50, 0x00] = some .badLength
      ∧ frameFailure (0x50 :: 0x1E :: List.replicate 30 0 ++ [0x92]) = some .badLength
      ∧ frameFailure [0x50, 0x01, 0xAF] = some .badLength ∧ frameFailure [0x50, 0x00, 0xB1] = some .badFrame
      ∧ frameFailure [0x99, 0x00, 0x67] = some .badCommand ∧ frameFailure [0x50, 0x01, 0x00, 0xAF] = some .badLength
      ∧ frameFailure [0x10, 0x0A, 7, 1, 3, 0xFF, 0xFF, 0xFF, 0xFF, 4, 0, 0, 0xDB] = none := by decide

/-- Events before the last START outside reset, and under each of the two; an address of the port, one of another, and
the highest address after new straps; an empty frame and one that is taken. -/
theorem witness_BusTransactionsAreTaken :
    let level (es : List BusEvent) : BitVec 7 × Bool × Bool :=
      es.foldl (fun x e => match e with
        | .resetAsserted => (x.1, true, x.2.2)
        | .resetReleased => (x.1, false, x.2.2)
        | .powerOnAsserted => (x.1, x.2.1, true)
        | .powerOnReleased straps => (0x58 + straps.zeroExtend 7, false, false)
        | _ => x) (ready.busView.address, ready.busView.resetN, ready.busView.powerOn)
    level [.start 0x58 false, .byte 0x22, .resetAsserted, .resetReleased] = (0x58, false, false)
      ∧ level [.start 0x58 false, .resetAsserted] = (0x58, true, false)
      ∧ level [.powerOnAsserted] = (0x58, false, true)
      ∧ level [.resetAsserted, .powerOnAsserted, .powerOnReleased 3] = (0x5B, false, false)
      ∧ ready.busView.frame = none ∧ (0x59 : BitVec 7) ≠ 0x58
      ∧ decodeFrame [0x22, 0x01, 0x05, 0xD8] = some (.releaseSlot 5) := by decide +kernel

/-- The highest stripe of the highest rank, its last position, and the last line of the memory. -/
theorem witness_LineAddressesDecompose :
    let e : RegionEntry :=
      { valid := true, rank := 3, first := 0xFFFF, last := 0xFFFF, policy := .plain, patrol := false, threshold := 0 }
    e.positions = 2048 ∧ e.lineAt 2047 = 536870911 ∧ e.positionOf 536870911 = 2047
      ∧ (homeRow 536870911).row.val = 65535 := by decide +kernel

/-- The highest index, policy and flag bytes that are taken, and the lowest that are not. -/
theorem witness_RegionsAreStagedAndRead :
    ready.resetN = false ∧ (7 : RegionIx).val = (7 : Byte).toNat ∧ (4 : Byte).toNat ≤ 4 ∧ 7 < (8 : Byte).toNat
      ∧ 4 < (5 : Byte).toNat ∧ ¬ ((2 : Byte) = 0 ∨ (2 : Byte) = 1) := by decide

/-- Each form that a line may be held in, at the ends of the symbols; far from the poison line and near it. -/
theorem witness_RankReadsAreClassified :
    State.reset.StoreSound ∧ (State.reset.storeForm (homeLoc 0) .poison).StoreSound
      ∧ (State.reset.storeForm (homeLoc 0) .poison).lineAt (homeLoc 0) = .intact .poison
      ∧ (1 : BitVec 32) ≠ 0 ∧ (0 : Fin 18) ≠ 17
      ∧ nearPoison (lineSymbol lost2) = false ∧ nearPoison (lineSymbol (.oneSymbol (.data (bytes 9)) 17 1)) = false
      ∧ nearPoison (lineSymbol (.bytes (BitVec.allOnes 576))) = false := by
  unfold State.StoreSound
  decide +kernel

theorem witness_StoreKeepsItsForm :
    (State.reset.storeForm (homeLoc 536870911) .poison).StoreSound ∧ homeLoc 0 ≠ homeLoc 536870911 := by
  unfold State.StoreSound
  decide +kernel

/-- A queue entry for the SPARED line in each state. -/
def mergingEntry : QueueEntry := { la := sparedLine, state := .merging 4 1 (bytes 7) false }
def queuedEntry : QueueEntry := { la := sparedLine, state := .queued (.data (bytes 1)) }
def heldEntry : QueueEntry := { la := sparedLine, state := .held .poison }
def issuedEntry : QueueEntry := { la := sparedLine, state := .issued (.data (bytes 1)) 1 }

/-- A state in which a request passes the five checks before the decode, with one credit left of each kind. -/
def open1 : State :=
  { ready with front := { ready.front with readBalance := 1, writeBalance := 1, readOwed := 31, writeOwed := 22 } }

/-- The conditions of acceptance, the highest tag free, in a PLAIN, SPARED and MIRRORED region and outside any. -/
theorem witness_acceptance :
    open1.resetN = false ∧ open1.front.admission = .opened ∧ open1.quiesce = .run ∧ open1.front.readBalance ≠ 0
      ∧ open1.front.writeBalance ≠ 0 ∧ (63 : Tag) ∉ open1.front.tagsHeld
      ∧ (decodeRow open1.active (homeRow sparedLine)).accepts = true
      ∧ (decodeRow open1.active (homeRow mirrorLine)).accepts = true
      ∧ (decodeRow open1.active (homeRow plainLine)).accepts = true
      ∧ (decodeRow open1.active (homeRow 536870911)).accepts = true := by decide +kernel

/-- The newest entry of the line in each of its states, behind another. -/
theorem witness_newest :
    newestFor (holding [queuedEntry, mergingEntry] [] open1).front.queue [queuedEntry] [] sparedLine mergingEntry
      ∧ newestFor (holding [issuedEntry, queuedEntry] [] open1).front.queue [issuedEntry] [] sparedLine queuedEntry
      ∧ newestFor (holding [heldEntry] [] open1).front.queue [] [] sparedLine heldEntry
      ∧ newestFor (holding [issuedEntry] [] open1).front.queue [] [] sparedLine issuedEntry
      ∧ (63 : Tag) ∉ (holding [queuedEntry, mergingEntry] [] open1).front.tagsHeld := by
  unfold newestFor
  decide +kernel

theorem witness_ReadIsAccepted : ∀ e ∈ open1.front.queue, e.la ≠ sparedLine := by decide +kernel

theorem witness_MaskedWriteIsAccepted :
    (1 : BitVec 64) ≠ 0 ∧ (1 : BitVec 64) ≠ BitVec.allOnes 64 ∧ (BitVec.allOnes 64 - 1) ≠ BitVec.allOnes 64 := by decide

theorem witness_WriteIsAccepted :
    ∀ (older newer : List QueueEntry) (e : QueueEntry) (f : LineForm),
      newestFor open1.front.queue older newer sparedLine e → e.state ≠ .queued f := by
  intro older newer e f h
  have empty : [] = older ++ e :: newer := h.1
  simp at empty

/-- The reason of the first of the six checks that a request fails, as the statement has it. -/
def firstReason (s : State) (tag : Tag) (la : LineAddr) (balance : Nat) (noByte : Bool) : Option FrontReason :=
  if s.front.admission = .closed then some .closed
  else if s.quiesce ≠ .run then some .quiescing
  else if balance = 0 then some .noCredit
  else if tag ∈ s.front.tagsHeld then some .tagInUse
  else if noByte = true then some .badMask
  else match decodeRow s.active (homeRow la) with
    | .region _ .pool _ => some .pool
    | .shadow _ => some .shadow
    | .region _ .closed _ => some .closedRegion
    | _ => none

theorem witness_RequestIsRefused :
    ready.resetN = false
      ∧ firstReason (shut ready) 1 sparedLine 0 false = some .closed
      ∧ firstReason { ready with quiesce := .draining } 1 sparedLine 32 false = some .quiescing
      ∧ firstReason ready 1 sparedLine 0 false = some .noCredit
      ∧ firstReason (holding [mergingEntry] [] ready) 4 sparedLine 24 false = some .tagInUse
      ∧ firstReason ready 1 sparedLine 24 true = some .badMask
      ∧ firstReason ready 1 poolLine 32 false = some .pool
      ∧ firstReason ready 1 shadowLine 32 false = some .shadow
      ∧ firstReason ready 1 closedLine 32 false = some .closedRegion := by decide +kernel

/-- Credits owed; CLOSED with work, with credits started, and without. -/
theorem witness_CreditsAndAdmission :
    0 < open1.front.readOwed + open1.front.writeOwed ∧ open1.front.creditsStarted = true
      ∧ (shut ready).front.admission = .closed ∧ (shut ready).resetN = false
      ∧ (holding [queuedEntry] [] (shut ready)).front.queue ≠ []
      ∧ (shut ready).front.tracker = [] ∧ (shut ready).front.queue = []
      ∧ (shut State.reset).front.creditsStarted = false := by decide +kernel

theorem witness_WorkIsIssued_reads :
    trackedAs (holding [] [{ tag := 0, la := 5, state := .issued }, { tag := 63, la := 536870911, state := .waiting }]
        ready).front.tracker [{ tag := 0, la := 5, state := .issued }] []
        { tag := 63, la := 536870911, state := .waiting }
      ∧ oldestFor (holding [mergingEntry, queuedEntry] [] ready).front.queue [] [queuedEntry] sparedLine mergingEntry := by
  unfold trackedAs oldestFor
  decide +kernel

/-- Each route a ready entry may take: placed, held at the pointer, and STALE. -/
theorem witness_WorkIsIssued_entry :
    oldestFor (holding [queuedEntry, mergingEntry] [] ready).front.queue [] [mergingEntry] sparedLine queuedEntry
      ∧ (∀ t ∈ (holding [queuedEntry, mergingEntry] [{ tag := 0, la := sparedLine, state := .heldForMerge 4 }]
          ready).front.tracker, t.la = sparedLine → t.state ≠ .waiting ∧ t.state ≠ .issued)
      ∧ ready.writeRoute sparedLine = .places [homeLoc sparedLine]
      ∧ (copying 0 (some (step0 0 .reading none false)) ready).writeRoute sparedLine = .hold
      ∧ ready.writeRoute poolLine = .stale := by
  unfold oldestFor
  decide +kernel

/-- A state that meets every invariant, with a command waiting that is not without effect. -/
def busy : State := { copying 40 none ready with pending := [.lineStepBegin] }

theorem witness_busy_steps : ∃ t, step busy = .next t := ⟨_, rfl⟩

theorem witness_invariants_front_log_store :
    busy.front.Sound ∧ busy.log.Sound ∧ busy.StoreSound ∧ busy.TrackerSound := by
  unfold FrontLink.Sound EventLog.Sound EventLog.numbered State.StoreSound State.TrackerSound
  decide +kernel

theorem witness_invariants_ranks_quiet : busy.RanksSound ∧ busy.QuietSound := by
  unfold State.RanksSound RankSched.Sound State.QuietSound
  decide +kernel

/-- The table of these tests passes the checks of a commit, as does it with its first or its third entry taken out. -/
theorem witness_tables :
    tableSound table ∧ tableSound (table.set 0 RegionEntry.reset) ∧ tableSound (table.set 2 RegionEntry.reset) := by
  unfold tableSound
  refine ⟨⟨?_, ?_⟩, ⟨?_, ?_⟩, ?_, ?_⟩
  · unfold RegionEntry.InRange
    decide +kernel
  · unfold RegionEntry.Apart
    decide +kernel
  · unfold RegionEntry.InRange
    decide +kernel
  · unfold RegionEntry.Apart
    decide +kernel
  · unfold RegionEntry.InRange
    decide +kernel
  · unfold RegionEntry.Apart
    decide +kernel

theorem witness_invariants_regions : busy.RegionsSound := by
  refine ⟨witness_tables.1, ?_, by decide +kernel, by decide +kernel⟩
  unfold RegionEntry.Normal
  decide +kernel

/-- A row of rank 0 is a spare of bank 0 that has been taken. -/
theorem taken4 (s : State) (h0 : s.cursors[cursorIx 0 0] = 1) (h : s.active = table) : s.spareTaken 0 0 4 := by
  refine ⟨0, by omega, ?_⟩
  rw [h]
  decide +kernel

theorem witness_invariants_jobs : busy.JobsSound ∧ busy.HomesApart := by
  unfold State.JobsSound Engine.closedWaits State.HomesApart
  decide +kernel

/-- A copy to spare row 4, which the cursor of its bank has passed. -/
def spent : State := { busy with cursors := busy.cursors.set 0 1 }

theorem witness_SparesStaySound : spent.RegionsSound ∧ spent.HomesApart ∧ spent.SparesSound := by
  have only : ∀ i : SlotIx, ∀ e ∈ busy.slots[i], i = 0 ∧ e = moved (.copying 4) 0 := by decide +kernel
  refine ⟨witness_invariants_regions, witness_invariants_jobs.2, by decide +kernel, ?_, ?_⟩
  · intro i e he
    obtain ⟨rfl, rfl⟩ := only i e he
    refine ⟨⟨0, true, by decide +kernel⟩, .inl ⟨rfl, by decide⟩, ?_⟩
    rintro r ⟨⟩
    exact taken4 _ (by decide +kernel) rfl
  · intro i j e he f hf
    obtain ⟨rfl, rfl⟩ := only i e he
    obtain ⟨rfl, rfl⟩ := only j f hf
    exact ⟨fun _ => rfl, by decide, fun _ _ => rfl⟩

/-- QACK_N asserted, every rank in self-refresh. -/
theorem witness_QuietStaysSound :
    ({ ready with
        quiesce := .asleep, qreq := true, qack := true
        ranks := Vector.replicate 4 { up with state := .selfRefresh, timerOn := false } } : State).QuietSound := by
  unfold State.QuietSound
  decide +kernel

/-- A log with room at its last place, and a full one. -/
theorem witness_EventLogStaysSound :
    (logged 31 0 ready).log.Sound ∧ (logged 32 65535 ready).log.Sound ∧ (logged 32 65535 ready).log.records.length = 32 := by
  unfold EventLog.Sound EventLog.numbered
  decide +kernel

theorem witness_HomesApart :
    ready.HomesApart ∧ (slotted 63 (moved .active 4) ready).HomesApart ∧ (copying 40 none ready).HomesApart := by
  unfold State.HomesApart
  decide +kernel

/-- A stripe covered, one of a shadow range, and one of neither, at the ends of their runs. -/
theorem witness_StripesDecode :
    decodeStripe table 0 3 = .region 0 .spared true ∧ decodeStripe table 0 4 = .region 1 .pool false
      ∧ decodeStripe table 3 1 = .shadow 2 ∧ decodeStripe table 3 2 = .undecoded
      ∧ decodeStripe table 0 65535 = .undecoded := by decide +kernel

/-- A line of each routing class, with and without an entry in use, and each mirror state. -/
theorem witness_ReadsGoWhereTheDataIs :
    decodeRow ready.active (homeRow 536870911) = .undecoded
      ∧ decodeRow ready.active (homeRow plainLine) = .region 4 .plain true
      ∧ decodeRow ready.active (homeRow shadowLine) = .shadow 2
      ∧ decodeRow ready.active (homeRow poolLine) = .region 1 .pool false
      ∧ decodeRow ready.active (homeRow closedLine) = .region 3 .closed false
      ∧ decodeRow ready.active (homeRow sparedLine) = .region 0 .spared true
      ∧ decodeRow ready.active (homeRow mirrorLine) = .region 2 .mirrored true
      ∧ (∀ n : SlotIx, ∀ e ∈ ready.slots[n], e.home ≠ homeRow sparedLine)
      ∧ (slotted 63 (moved .active 4) ready).slots[(63 : SlotIx)] = some (moved .active 4)
      ∧ (moved .active 4).home = homeRow sparedLine
      ∧ ready.mirrors[(2 : RegionIx)] = some (record .duplex 0 0)
      ∧ (mirror .simplexShadow 4 0 ready).mirrors[(2 : RegionIx)] = some (record .simplexShadow 4 0) := by decide +kernel

/-- The copy window of the row move in progress, with and without its step, and of no job. -/
theorem witness_windows :
    (copying 40 (some (step0 40 .reading none false)) ready).windowIs (.rowMove 0) 40 true
      ∧ (copying 40 none ready).windowIs (.rowMove 0) 40 ((copying 40 none ready).windowStepping (.rowMove 0))
      ∧ ready.windowIs (.resync 2) 0 false
      ∧ ready.windowIs (.rowMove 0) 0 (ready.windowStepping (.rowMove 0)) := by
  refine ⟨⟨rfl, rfl⟩, ⟨rfl, rfl⟩, ⟨rfl, rfl⟩, ⟨rfl, rfl⟩⟩

theorem witness_WritesGoWhereTheDataIs :
    (copying 40 none ready).slots[(0 : SlotIx)] = some (moved (.copying 4) 0)
      ∧ (mirror .rebuildPrimary 4 0 ready).mirrors[(2 : RegionIx)] = some (record .rebuildPrimary 4 0) := by decide +kernel

/-- A host read of the SPARED line, completing. -/
def reading : State :=
  carrying (placedOp (.hostRead 1 (.spared 0)) sparedLine (homeLoc sparedLine))
    (holding [] [{ tag := 1, la := sparedLine, state := .issued }] ready)

theorem witness_HostReadIsAnswered :
    reading.carries 0 0 { kind := .hostRead 1 (.spared 0), la := sparedLine, loc := homeLoc sparedLine }
      ∧ trackedAs reading.front.tracker [] [] { tag := 1, la := sparedLine, state := .issued }
      ∧ RouteClass.spared 0 ≠ .mirrored 2 .primary true 1 := by
  unfold State.carries trackedAs
  decide +kernel

/-- A merge read of the SPARED line with a second MERGING entry behind its own. -/
def merging2 : QueueEntry := { la := sparedLine, state := .merging 9 2 (bytes 8) false }
def merging1 : QueueEntry := { la := sparedLine, state := .merging 4 1 (bytes 7) true }
def mergeReading : State :=
  carrying (placedOp (.mergeRead 4 .plain) sparedLine (homeLoc sparedLine)) (holding [merging1, merging2] [] ready)

theorem witness_MergeReadIsAnswered :
    mergeReading.carries 0 0 { kind := .mergeRead 4 .plain, la := sparedLine, loc := homeLoc sparedLine }
      ∧ oldestFor
          ((((mergeReading.freeBank 0 0).sense (homeLoc sparedLine) (some lost2)).1.reportRead true .plain
            (homeLoc sparedLine) .uncorrectable).front.queue) [] [merging2] sparedLine merging1
      ∧ [merging2] = [] ++ merging2 :: []
      ∧ oldestFor
          ((((holding [merging1] [] mergeReading).freeBank 0 0).sense (homeLoc sparedLine)
            (some lost2)).1.reportRead true .plain (homeLoc sparedLine) .uncorrectable).front.queue [] []
          sparedLine merging1
      ∧ (9 : Tag) ≠ 4 := by
  unfold State.carries oldestFor
  decide +kernel

/-- A read of the primary in DUPLEX, its fourth uncorrectable one: the shadow serves after its report. -/
def primaryReading : State :=
  carrying (placedOp (.hostRead 1 (.mirrored 2 .primary true 1)) mirrorLine (homeLoc mirrorLine))
    (holding [] [{ tag := 1, la := mirrorLine, state := .issued }] (mirror .duplex 3 0 ready))

theorem witness_FailoverReadIsPlaced :
    primaryReading.carries 2 0
        { kind := .hostRead 1 (.mirrored 2 .primary true 1), la := mirrorLine, loc := homeLoc mirrorLine }
      ∧ ((primaryReading.freeBank 2 0).sense (homeLoc mirrorLine) (some lost2)).2.outcome = .uncorrectable
      ∧ ((((primaryReading.freeBank 2 0).sense (homeLoc mirrorLine) (some lost2)).1.offer
          (.uncorrectable .hostRead (homeLoc mirrorLine))).sideReport 2 .primary 1).mirrors[(2 : RegionIx)]
        = some (record .simplexShadow 4 0) := by
  unfold State.carries
  decide +kernel

/-- A failover read of a host request, and one of a merge. -/
theorem witness_FailoverReadAnswers :
    (carrying (placedOp (.failoverRead 1 false 2 1) mirrorLine (sideLoc .shadow mirrorLine))
        (holding [] [{ tag := 1, la := mirrorLine, state := .issued }] ready)).carries 3 0
        { kind := .failoverRead 1 false 2 1, la := mirrorLine, loc := sideLoc .shadow mirrorLine }
      ∧ trackedAs (holding [] [{ tag := 1, la := mirrorLine, state := .issued }] ready).front.tracker [] []
        { tag := 1, la := mirrorLine, state := .issued }
      ∧ (carrying (placedOp (.failoverRead 4 true 2 1) mirrorLine (sideLoc .shadow mirrorLine)) ready).carries 3 0
        { kind := .failoverRead 4 true 2 1, la := mirrorLine, loc := sideLoc .shadow mirrorLine }
      ∧ oldestFor (holding [{ merging1 with la := mirrorLine }] [] ready).front.queue [] [] mirrorLine
        { merging1 with la := mirrorLine }
      ∧ oldestFor (holding [{ merging1 with la := mirrorLine }, { merging2 with la := mirrorLine }] [] ready).front.queue []
        ([] ++ { merging2 with la := mirrorLine } :: []) mirrorLine { merging1 with la := mirrorLine } := by
  unfold State.carries trackedAs oldestFor
  decide +kernel

/-- The last and the first of two rank writes of an entry. -/
theorem witness_WritesAreStored_entry :
    (carrying (placedOp (.entryWrite (.data (bytes 1)) .spared) sparedLine (homeLoc sparedLine))
        (holding [issuedEntry] [] ready)).carries 0 0
        { kind := .entryWrite (.data (bytes 1)) .spared, la := sparedLine, loc := homeLoc sparedLine }
      ∧ oldestFor (holding [issuedEntry] [] ready).front.queue [] [] sparedLine
        { la := sparedLine, state := .issued (.data (bytes 1)) (0 + 1) }
      ∧ oldestFor (holding [{ la := sparedLine, state := .issued .poison 2 }] [] ready).front.queue [] [] sparedLine
        { la := sparedLine, state := .issued .poison (1 + 1) } := by
  unfold State.carries oldestFor
  decide +kernel

theorem witness_WritesAreStored_restorative :
    (carrying (placedOp (.repairWrite (bytes 9) 2 .primary true (.mirrored 2 .primary)) mirrorLine (homeLoc mirrorLine)) ready).carries 2 0
        { kind := .repairWrite (bytes 9) 2 .primary true (.mirrored 2 .primary), la := mirrorLine, loc := homeLoc mirrorLine }
      ∧ (carrying (placedOp (.scrubWrite (bytes 9) .spared) sparedLine (homeLoc sparedLine)) ready).carries 0 0
        { kind := .scrubWrite (bytes 9) .spared, la := sparedLine, loc := homeLoc sparedLine } := by
  unfold State.carries
  decide +kernel

/-- An operation of each kind that was in progress when RESET_N was asserted. -/
theorem witness_ResultsBeforeAResetAreDiscarded :
    ∀ o ∈ [placedOp (.hostRead 1 .plain) plainLine (homeLoc plainLine),
        placedOp (.mergeRead 1 .plain) plainLine (homeLoc plainLine),
        placedOp (.failoverRead 1 false 2 1) plainLine (homeLoc plainLine),
        placedOp .moveRead plainLine (homeLoc plainLine),
        placedOp (.patrolRead .single) plainLine (homeLoc plainLine),
        placedOp (.entryWrite .poison .plain) plainLine (homeLoc plainLine),
        placedOp (.targetWrite .poison) plainLine (homeLoc plainLine),
        placedOp (.repairWrite (bytes 1) 2 .shadow false .plain) plainLine (homeLoc plainLine),
        placedOp (.scrubWrite (bytes 1) .plain) plainLine (homeLoc plainLine)],
      (after .warmResetAssert (carrying o ready)).inBank 1 0 = some { o with abandoned := true } := by decide +kernel

/-! #### Grants -/

/-- Rank 1 with operations placed, a debt, a move-wait count and rank-wide operations. -/
def ranked (f : RankSched → RankSched) : State := ready.onRank 1 f

def hostOp : LineOp := placedOp (.hostRead 1 .plain) plainLine (homeLoc plainLine)
def writeOp : LineOp := placedOp (.entryWrite .poison .plain) (plainLine + 1) (homeLoc (plainLine + 1))
def moveOp : LineOp := placedOp .moveRead plainLine (homeLoc plainLine)
def patrolOp : LineOp := placedOp (.patrolRead .single) plainLine (homeLoc plainLine)

/-- The premises of the clauses without a quantifier: a rank-wide operation in progress, placed with the slots idle and
not, a rank not OPERATING, and the mandatory refresh. -/
theorem witness_GrantsFollowTheOrder_wide :
    ((ranked fun r => { r with wide := some .refresh }).ranks[(1 : RankNo)]).wide ≠ none
      ∧ (∀ w ∈ [WideOp.entry, .exit, .init],
          ((ranked fun r => { r with widePlaced := some w }).ranks[(1 : RankNo)]).widePlaced = some w)
      ∧ ((carrying hostOp (ranked fun r => { r with widePlaced := some .entry })).ranks[(1 : RankNo)]).banks[(0 : BankNo)]
        ≠ none
      ∧ ((ranked fun r => { r with state := .selfRefresh }).ranks[(1 : RankNo)]).state ≠ .operating
      ∧ 8 ≤ ((ranked fun r => { r with debt := 8 }).ranks[(1 : RankNo)]).debt
      ∧ (∀ b : BankNo, ((ranked fun r => { r with debt := 8 }).ranks[(1 : RankNo)]).banks[b] = none) := by decide +kernel

/-- The premises of the clauses on line operations: one operation alone, first of its step, with the move guard and a
full write queue where they are asked for, and an opportunity to refresh. -/
theorem witness_GrantsFollowTheOrder_line :
    ((ranked fun r => { r with placed := [hostOp] }).ranks[(1 : RankNo)]).placed[0]? = some hostOp
      ∧ ((ranked fun r => { r with placed := [hostOp] }).ranks[(1 : RankNo)]).debt < 8
      ∧ hostOp.kind.cls = .host ∧ hostOp.kind.isRead = true ∧ hostOp.kind.restorative = false
      ∧ writeOp.kind.cls = .host ∧ writeOp.kind.isRead = false ∧ writeOp.kind.restorative = false
      ∧ 16 ≤ (holding (List.replicate 16 queuedEntry) [] ready).front.queue.length
      ∧ moveOp.kind.cls = .move ∧ 16 ≤ ((ranked fun r => { r with placed := [moveOp], moveWait := 16 }).ranks[(1 : RankNo)]).moveWait
      ∧ patrolOp.kind.cls = .patrol ∧ patrolOp.kind.restorative = false
      ∧ 1 ≤ ((ranked fun r => { r with debt := 7, placed := [moveOp] }).ranks[(1 : RankNo)]).debt
      ∧ (∀ o ∈ ((ranked fun r => { r with debt := 7, placed := [moveOp] }).ranks[(1 : RankNo)]).placed, o.kind.cls ≠ .host)
      ∧ ((ranked fun r => r).ranks[(1 : RankNo)]).placed = [] := by decide +kernel

/-- A repair write and a scrub write that land, ahead of a move and a patrol read of other banks, and a scrub write that
waits for the place. -/
theorem witness_RestorativeWritesAreCheckedAtGrant :
    let move : LineOp := placedOp .moveRead (mirrorLine + 128) (homeLoc (mirrorLine + 128))
    let patrol : LineOp := placedOp (.patrolRead .single) (sparedLine + 2047) (homeLoc (sparedLine + 2047))
    let repair : LineOp := placedOp (.repairWrite (bytes 9) 2 .primary false (.mirrored 2 .primary)) mirrorLine (homeLoc mirrorLine)
    let scrub : LineOp := placedOp (.scrubWrite (bytes 9) .spared) sparedLine (homeLoc sparedLine)
    ((waiting [repair, move] ready).ranks[(2 : RankNo)]).placed = repair :: [move]
      ∧ (homeLoc mirrorLine).rank = 2 ∧ (ready.ranks[(2 : RankNo)]).state = .operating
      ∧ (ready.ranks[(2 : RankNo)]).wide = none ∧ (ready.ranks[(2 : RankNo)]).widePlaced = none
      ∧ (ready.ranks[(2 : RankNo)]).debt = 0 ∧ (ready.ranks[(2 : RankNo)]).moveWait < 16
      ∧ (ready.ranks[(2 : RankNo)]).banks[(0 : BankNo)] = none
      ∧ move.loc.bank ≠ repair.loc.bank ∧ move.kind.cls ≠ .host
      ∧ ready.writeRoute mirrorLine = .places [homeLoc mirrorLine, sideLoc .shadow mirrorLine]
      ∧ ((waiting [scrub, patrol] ready).ranks[(0 : RankNo)]).placed = scrub :: [patrol]
      ∧ patrol.loc.bank ≠ scrub.loc.bank ∧ patrol.kind.cls = .patrol
      ∧ ready.writeRoute sparedLine = .places [homeLoc sparedLine]
      ∧ (∀ p ∈ ready.patrol.step, ∀ w ∈ p.waiting, w.loc.rank ≠ 0)
      ∧ (sideLoc .shadow mirrorLine).rank ≠ 2 := by decide +kernel

theorem witness_RefreshIsOwedAndPaid :
    ready.resetN = false ∧ (ready.ranks[(3 : RankNo)]).timerOn = true ∧ (ready.ranks[(3 : RankNo)]).state = .operating
      ∧ ((ranked fun r => { r with debt := 7 }).ranks[(1 : RankNo)]).debt < 8
      ∧ ((ranked fun r => { r with debt := 8 }).ranks[(1 : RankNo)]).debt = 8
      ∧ ((ranked fun r => { r with wide := some .refresh }).ranks[(1 : RankNo)]).wide = some .refresh := by decide +kernel

/-! #### Patrol and the tracker -/

/-- The cursor at a position of a region. -/
def atCursor (i : RegionIx) (q : Nat) (s : State) : State := { s with patrol := { s.patrol with cursor := some (i, q) } }

/-- Skipped and idle. -/
theorem witness_PatrolExpiriesTakeSteps_skipped :
    ready.patrol.interval ≠ 0 ∧ ({ ready with quiesce := .draining } : State).quiesce ≠ .run
      ∧ (patrolling 0 .spared sparedLine none ready).patrol.step ≠ none
      ∧ ({ ready with patrol := { ready.patrol with cursor := none } } : State).patrol.cursor = none := by decide +kernel

/-- With nothing being moved or rebuilt every position is to be read. -/
theorem all_read (j : RegionIx) (p : Nat) : ready.toBeRead j p := by
  refine ⟨?_, ?_⟩
  · intro h
    have two : ∀ j : RegionIx, (ready.active[j]).policy = .mirrored → j = 2 := by decide +kernel
    rw [two j h]
    exact ⟨record .duplex 0 0, by decide +kernel, by decide, by decide⟩
  · intro _ n e he
    have free : ∀ n : SlotIx, ready.slots[n] = none := by decide +kernel
    rw [free n] at he
    cases he

/-- With every position to be read, the first one ahead of a cursor is where it stands. -/
theorem first_read (i : RegionIx) (q : Nat) (h : q < (ready.active[i]).positions) : ready.firstRead (ready.aheadOf i q) i q := by
  refine ⟨.inl ⟨rfl, le_refl q⟩, h, all_read i q, ?_⟩
  rintro j p (⟨rfl, hp⟩ | ⟨hj, _⟩) _ (hl | ⟨he, hl⟩)
  · exact absurd hl (lt_irrefl j)
  · omega
  · exact absurd hl (lt_asymm hj)
  · exact absurd hj (he ▸ lt_irrefl i)

/-- A position of each kind of region, the first and the last but one, and the last of a region with another above it. -/
theorem witness_PatrolExpiriesTakeSteps :
    ready.HomesApart ∧ ready.firstRead (ready.aheadOf 4 0) 4 0 ∧ ready.firstRead (ready.aheadOf 2 4094) 2 4094
      ∧ ready.firstRead (ready.aheadOf 0 8191) 0 8191
      ∧ ready.patrolLookup 4 plainLine .plain .single (homeLoc plainLine)
      ∧ ready.patrolLookup 0 sparedLine .spared .single (homeLoc sparedLine)
      ∧ (slotted 63 (moved .active 4) ready).patrolLookup 0 sparedLine .spared .single { homeLoc sparedLine with row := 4 }
      ∧ ready.patrolLookup 2 mirrorLine (.duplex 1) .primary (homeLoc mirrorLine)
      ∧ (mirror .simplexShadow 4 0 ready).patrolLookup 2 mirrorLine (.simplex .shadow 1) .single (sideLoc .shadow mirrorLine)
      ∧ ready.cursorPast 4 4094 (some (4, 4095)) false ∧ ready.cursorPast 0 8191 (some (2, 0)) false := by
  have unused : ∀ n : SlotIx, ∀ e ∈ ready.slots[n], e.home ≠ homeRow sparedLine := by decide +kernel
  refine ⟨witness_HomesApart.1, first_read 4 0 (by decide +kernel), first_read 2 4094 (by decide +kernel),
    first_read 0 8191 (by decide +kernel), .inl ⟨by decide +kernel, rfl, rfl, rfl⟩, ?_, ?_, ?_, ?_, ?_, ?_⟩
  · exact .inr (.inl ⟨by decide +kernel, rfl, rfl, .inl ⟨unused, rfl⟩⟩)
  · exact .inr (.inl ⟨by decide +kernel, rfl, rfl, .inr ⟨63, moved .active 4, by decide +kernel, by decide, by decide⟩⟩)
  · exact .inr (.inr ⟨by decide +kernel, record .duplex 0 0, by decide +kernel, .inl ⟨rfl, rfl, rfl, rfl⟩⟩)
  · exact .inr (.inr ⟨by decide +kernel, record .simplexShadow 4 0, by decide +kernel,
      .inr (.inr ⟨rfl, rfl, rfl, by decide⟩)⟩)
  · have inside : 4094 + 1 < (ready.active[(4 : RegionIx)]).positions := by decide +kernel
    simp only [State.cursorPast, inside, if_true, and_self]
  · unfold State.cursorPast State.patrolled
    decide +kernel

/-- The last position of region 4, the highest patrolled one, with region 0 the lowest; and the one patrolled region being
rebuilt, with nothing to read anywhere. -/
theorem witness_PatrolPassEnds :
    ready.firstRead (ready.aheadOf 4 4095) 4 4095 ∧ ready.cursorPast 4 4095 (some (0, 0)) true
      ∧ (∀ n : RegionIx, n < 0 → ¬ ready.patrolled n) ∧ ready.patrolled 0 := by
  refine ⟨first_read 4 4095 (by decide +kernel), ?_, ?_⟩
  · unfold State.cursorPast State.patrolled
    decide +kernel
  · unfold State.patrolled
    decide +kernel

/-- Region 2 alone is patrolled, and is being rebuilt. -/
def rebuildingAlone : State :=
  { mirror .rebuildShadow 0 0 ready with active := (table.set 0 (entry 0 0 3 .spared false 2)).set 4 (entry 1 1 2 .plain false 0) }

theorem witness_PatrolPassEnds_none :
    rebuildingAlone.patrolled 2 ∧ (∀ n : RegionIx, n < 2 → ¬ rebuildingAlone.patrolled n)
      ∧ rebuildingAlone.noneToRead (rebuildingAlone.aheadOf 2 0)
      ∧ rebuildingAlone.noneToRead (fun j _ => rebuildingAlone.patrolled j) := by
  have two : ∀ j : RegionIx, rebuildingAlone.patrolled j → j = 2 := by
    unfold State.patrolled
    decide +kernel
  have mirrored : (rebuildingAlone.active[(2 : RegionIx)]).policy = .mirrored := by decide +kernel
  have rebuilding : rebuildingAlone.mirrors[(2 : RegionIx)] = some (record .rebuildShadow 0 0) := by decide +kernel
  have never : ∀ p, ¬ rebuildingAlone.toBeRead 2 p := by
    rintro p ⟨h, _⟩
    obtain ⟨m, hm, hn, _⟩ := h mirrored
    rw [rebuilding] at hm
    cases hm
    exact hn rfl
  refine ⟨?_, ?_, ?_, ?_⟩
  · unfold State.patrolled
    decide +kernel
  · unfold State.patrolled
    decide +kernel
  · rintro j p (⟨rfl, _⟩ | ⟨_, hp⟩) _
    · exact never p
    · rw [two j hp]
      exact never p
  · intro j p hp _
    rw [two j hp]
    exact never p

/-- Region 0 alone is patrolled, and its last row is being copied. -/
def lastRowCopied : State :=
  slotted 0 { moved (.copying 4) 3 with home := { rank := 0, bank := 15, row := 3 } }
    { ready with active := (table.set 2 (entry 2 0 1 .mirrored false 0)).set 4 (entry 1 1 2 .plain false 0) }

/-- From a cursor in the last row nothing is to be read up to the wrap, and the walk goes on from position 0. -/
theorem witness_PatrolPassEnds_around :
    lastRowCopied.HomesApart ∧ lastRowCopied.noneToRead (lastRowCopied.aheadOf 0 8064)
      ∧ lastRowCopied.firstRead (fun j _ => lastRowCopied.patrolled j) 0 0
      ∧ lastRowCopied.patrolLookup 0 sparedLine .spared .single (homeLoc sparedLine)
      ∧ lastRowCopied.cursorPast 0 0 (some (0, 1)) false := by
  have zero : ∀ j : RegionIx, lastRowCopied.patrolled j → j = 0 := by
    unfold State.patrolled
    decide +kernel
  have spared : (lastRowCopied.active[(0 : RegionIx)]).policy = .spared := by decide +kernel
  have long : (lastRowCopied.active[(0 : RegionIx)]).positions = 8192 := by decide +kernel
  have slot : lastRowCopied.slots[(0 : SlotIx)]
      = some { moved (.copying 4) 3 with home := { rank := 0, bank := 15, row := 3 } } := by decide +kernel
  have at0 : lastRowCopied.active[(0 : RegionIx)] = entry 0 0 3 .spared true 2 := by decide +kernel
  have lastRow : ∀ p, 8064 ≤ p → p < 8192 →
      homeRow ((lastRowCopied.active[(0 : RegionIx)]).lineAt p) = { rank := 0, bank := 15, row := 3 } := by
    intro p h1 h2
    have value : ((entry 0 0 3 .spared true 2).lineAt p).val = p := by
      simp only [RegionEntry.lineAt, entry, Fin.val_ofNat, BitVec.ofNat_eq_ofNat, BitVec.toNat_ofNat]
      omega
    rw [at0]
    simp only [homeRow, value, PhysRow.mk.injEq, Fin.ext_iff, Fin.val_ofNat]
    refine ⟨?_, ?_, ?_⟩ <;> omega
  have others : ∀ n : SlotIx, ∀ e ∈ lastRowCopied.slots[n], e.home ≠ homeRow sparedLine := by decide +kernel
  refine ⟨?_, ?_, ⟨?_, by rw [long]; omega, ⟨?_, ?_⟩, ?_⟩, .inr (.inl ⟨spared, rfl, rfl, .inl ⟨others, rfl⟩⟩), ?_⟩
  · unfold State.HomesApart
    decide +kernel
  · rintro j p (⟨rfl, hp⟩ | ⟨hj, hp⟩) hl ⟨_, hr⟩
    · rw [long] at hl
      have := hr spared 0 _ slot (lastRow p hp hl).symm
      cases this
    · rw [zero j hp] at hj
      exact absurd hj (lt_irrefl 0)
  · unfold State.patrolled
    decide +kernel
  · intro h
    rw [spared] at h
    cases h
  · intro _ n e he hh
    exact absurd (hh.trans (by decide +kernel)) (others n e he)
  · rintro j p hp _ (hl | ⟨_, hl⟩)
    · rw [zero j hp] at hl
      exact absurd hl (lt_irrefl 0)
    · omega
  · have inside : 0 + 1 < (lastRowCopied.active[(0 : RegionIx)]).positions := by rw [long]; omega
    simp only [State.cursorPast, inside, if_true, and_self]

theorem witness_PatrolReadIsHandled :
    (carrying (placedOp (.patrolRead .single) sparedLine (homeLoc sparedLine))
        (patrolling 0 .spared sparedLine none ready)).carries 0 0
        { kind := .patrolRead .single, la := sparedLine, loc := homeLoc sparedLine }
      ∧ (patrolling 0 .spared sparedLine none ready).patrol.step
        = some { region := 0, treat := .spared, la := sparedLine, outstanding := 1, first := none, waiting := none }
      ∧ (∀ n : RankNo, (ready.ranks[n]).scrubs = 0)
      ∧ ¬ (∀ n : RankNo, ((waiting [placedOp (.scrubWrite (bytes 9) .spared) 5 (homeLoc 5)] ready).ranks[n]).scrubs = 0) := by
  unfold State.carries
  decide +kernel

/-- The pair's two reads, the first of them UNCORRECTABLE when the second completes, with the shadow's count at 3 and below. -/
theorem witness_PatrolPairIsRepaired :
    (carrying (placedOp (.patrolRead .primary) mirrorLine (homeLoc mirrorLine)) ready).carries 2 0
        { kind := .patrolRead .primary, la := mirrorLine, loc := homeLoc mirrorLine }
      ∧ (carrying (placedOp (.patrolRead .shadow) mirrorLine (sideLoc .shadow mirrorLine)) ready).carries 3 0
        { kind := .patrolRead .shadow, la := mirrorLine, loc := sideLoc .shadow mirrorLine }
      ∧ (patrolling 2 (.duplex 1) mirrorLine
          (some { reading := { outcome := .uncorrectable, data := zeroLine }, superseded := false }) ready).patrol.step
        = some { region := 2, treat := .duplex 1, la := mirrorLine, outstanding := 0 + 1,
                 first := some { reading := { outcome := .uncorrectable, data := zeroLine }, superseded := false },
                 waiting := none }
      ∧ (mirror .duplex 0 3 ready).mirrors[(2 : RegionIx)] = some (record .duplex 0 3)
      ∧ (record .duplex 0 3).born = 1
      ∧ ((((ready.freeBank 3 0).sense (sideLoc .shadow mirrorLine) (some (.intact (.data (bytes 1))))).1.ranks[(2 : RankNo)]).repairs < 15)
      ∧ ((ready.freeBank 3 0).sense (sideLoc .shadow mirrorLine) (some (.intact (.data (bytes 1))))).2.outcome = .clean
      ∧ ((ready.freeBank 3 0).sense (sideLoc .shadow mirrorLine) (some (.oneSymbol (.data (bytes 1)) 0 1))).2.outcome
        = .corrected
      ∧ ((ready.freeBank 3 0).sense (sideLoc .shadow mirrorLine) (some lost2)).2.outcome = .uncorrectable := by
  unfold State.carries
  decide +kernel

/-- A tracker entry for row `n` of bank 0 of rank 0. -/
def counted (n : RowNo) (c : Nat) : TrackerEntry :=
  { row := { rank := 0, bank := 0, row := n }, region := 0, count := c }

/-- A tracker that is full, its lowest count in its middle. -/
def fullTracker : List TrackerEntry :=
  (List.range 15).map (fun n => counted (Fin.ofNat 65536 n) 3) ++ counted 15 1 ::
    (List.range 16).map fun n => counted (Fin.ofNat 65536 (16 + n)) 1

theorem witness_CorrectedReportIsCounted :
    ({ ready with tracker := fullTracker } : State).TrackerSound ∧ fullTracker.length = 32
      ∧ fullTracker = (List.range 15).map (fun n => counted (Fin.ofNat 65536 n) 3) ++ counted 15 1 ::
        (List.range 16).map (fun n => counted (Fin.ofNat 65536 (16 + n)) 1)
      ∧ (∀ x ∈ (List.range 15).map (fun n => counted (Fin.ofNat 65536 n) 3), (counted 15 1).count < x.count)
      ∧ (∀ e ∈ fullTracker, e.row ≠ (counted 40 1).row)
      ∧ (ready.active[(0 : RegionIx)]).valid = true ∧ (ready.active[(0 : RegionIx)]).policy = .spared
      ∧ (ready.active[(0 : RegionIx)]).threshold ≠ 1
      ∧ ¬ ((ready.active[(7 : RegionIx)]).valid = true ∧ (ready.active[(7 : RegionIx)]).policy = .spared)
      ∧ ((table.set 0 (entry 0 0 3 .spared true 1))[(0 : RegionIx)]).threshold = 1 := by
  unfold State.TrackerSound
  decide +kernel

/-! #### The move engine -/

theorem witness_JobsAndStepsBegin :
    ({ ready with engine := { ready.engine with queue := [.rowMove 0] } } : State).engine.queue = .rowMove 0 :: []
      ∧ ready.engine.mode = .idle ∧ (moved (.pending 4) 0).phase = .pending 4
      ∧ (record .rebuildShadow 0 0).state = .rebuildShadow
      ∧ (copying 127 none ready).engine.mode = .running ∧ (copying 127 none ready).engine.job = some (rowJob 127 none)
      ∧ (rowJob 127 none).step = none ∧ (rowJob 127 none).closed = false ∧ (rowJob 127 none).p < (rowJob 127 none).length
      ∧ (rowJob 127 none).ends = .rows { rank := 0, bank := 0, row := 0 } { rank := 0, bank := 0, row := 4 }
      ∧ (copying 127 none ready).slots[(0 : SlotIx)] = some (moved (.copying 4) 0)
      ∧ (job (.resync 2) (.sides .primary) 4096 4095 none).p < (job (.resync 2) (.sides .primary) 4096 4095 none).length := by
  decide +kernel

theorem witness_MoveReadIsCarriedOn :
    (carrying (placedOp .moveRead 62 (homeLoc 62)) (copying 62 (some (step0 62 .reading none false)) ready)).carries 0 0
        { kind := .moveRead, la := 62, loc := homeLoc 62 }
      ∧ (rowJob 62 (some (step0 62 .reading none false))).step = some (step0 62 .reading none false)
      ∧ ((ready.freeBank 0 0).sense (homeLoc 62) (some lost2)).2.outcome = .uncorrectable
      ∧ ((ready.freeBank 0 0).sense (homeLoc 62) (some (.intact .poison))).2.outcome ≠ .uncorrectable
      ∧ (step0 62 .reading none true).discarded = true ∧ (step0 62 .reading none false).discarded = false
      ∧ ready.mirrors[(2 : RegionIx)] = some (record .duplex 0 0) := by
  unfold State.carries
  decide +kernel

/-- A step at the last position but one and at the last, discarded and not, with and without a held entry. -/
theorem witness_TargetWriteEndsTheStep :
    (carrying (placedOp (.targetWrite .poison) 63 { rank := 0, bank := 0, row := 4, col := 63 })
        (copying 63 (some (step0 63 .writing none false)) ready)).carries 0 0
        { kind := .targetWrite .poison, la := 63, loc := { rank := 0, bank := 0, row := 4, col := 63 } }
      ∧ (step0 126 .writing none false).position + 1 ≠ (rowJob 126 none).length
      ∧ (step0 127 .writing none false).position + 1 = (rowJob 127 none).length
      ∧ (step0 63 .writing (some 63) false).held = some 63
      ∧ oldestFor (holding [{ la := 63, state := .held .poison }] [] ready).front.queue [] [] 63
        { la := 63, state := .held .poison }
      ∧ (copying 64 none (holding [{ la := 63, state := .held .poison }] [] ready)).writeRoute 63
        = .places [{ rank := 0, bank := 0, row := 0, col := 63 }, { rank := 0, bank := 0, row := 4, col := 63 }]
      ∧ (copying 64 none { ready with active := table.set 0 (entry 0 0 3 .closed false 0) }).writeRoute 63 = .stale
      ∧ (moved (.copying 4) 0).phase = .copying 4 ∧ (step0 63 .writing none true).discarded = true
      ∧ (rowJob 63 none).closed = false ∧ ({ rowJob 63 none with closed := true } : Job).closed = true := by
  unfold State.carries oldestFor
  decide +kernel

/-! #### Quiesce and resets -/

theorem witness_QuiesceFollowsItsRequest :
    ready.quiesce = .run ∧ ({ ready with quiesce := .draining } : State).quiesce = .draining
      ∧ ready.front.creditsStarted = true ∧ State.reset.front.creditsStarted = false
      ∧ State.reset.front.admission = .opened ∧ (shut State.reset).front.admission = .closed
      ∧ ready.front.tracker = [] ∧ ready.front.queue = [] ∧ ready.front.readOwed = 0 ∧ ready.front.writeOwed = 0
      ∧ (∀ j ∈ (copying 40 none ready).engine.job, j.step = none) ∧ ready.patrol.step = none
      ∧ (∀ k : RankNo, (ready.ranks[k]).placed = [] ∧ ∀ b : BankNo, (ready.ranks[k]).banks[b] = none) := by decide +kernel

/-- Self-refresh entry in progress on rank 0, the others in self-refresh. -/
def lastEntry : State :=
  { ready with
    quiesce := .entering
    ranks := (Vector.replicate 4 { up with state := .selfRefresh }).set 0 { up with wide := some .entry } }

/-- The last rank of each rank-wide operation, and one that is not the last. -/
theorem witness_RankWideOperationsComplete :
    (lastEntry.ranks[(0 : RankNo)]).wide = some .entry
      ∧ (∀ n : RankNo, n ≠ 0 → (lastEntry.ranks[n]).state = .selfRefresh)
      ∧ ¬ (∀ n : RankNo, n ≠ 0 → (ready.ranks[n]).state = .selfRefresh)
      ∧ (∀ n : RankNo, n ≠ 0 → (ready.ranks[n]).state = .operating)
      ∧ (∀ n : RankNo, n ≠ 0 → (ready.ranks[n]).wide ≠ some .entry ∧ (ready.ranks[n]).wide ≠ some .exit
        ∧ (ready.ranks[n]).widePlaced ≠ some .entry ∧ (ready.ranks[n]).widePlaced ≠ some .exit)
      ∧ ¬ (∀ n : RankNo, n ≠ 0 → (State.reset.ranks[n]).state = .operating)
      ∧ (({ lastEntry with quiesce := .waking } : State).ranks[(0 : RankNo)]).wide = some .entry := by decide +kernel

/-- Each of the three cases of the release: a rank INITIALIZING, a rank in self-refresh, all OPERATING. -/
theorem witness_WarmResetKeepsWhatItMust :
    State.reset.resetN = false ∧ (after .warmResetAssert ready).resetN = true
      ∧ ((after .warmResetAssert State.reset).ranks[(0 : RankNo)]).state = .initializing
      ∧ ((after .warmResetAssert { ready with ranks := ready.ranks.set 3 { up with state := .selfRefresh } }).ranks[(3 : RankNo)]).state
        = .selfRefresh
      ∧ (∀ k : RankNo, ((after .warmResetAssert ready).ranks[k]).state = .operating
        ∧ ((after .warmResetAssert ready).ranks[k]).changing = false) := by decide +kernel

theorem witness_NothingElseHappensUnderReset :
    (after .warmResetAssert ready).resetN = true ∧ ready.resetN = false
      ∧ ((after .warmResetAssert (ranked fun r => { r with wide := some .entry })).ranks[(1 : RankNo)]).wide = some .entry
      ∧ ((after .warmResetAssert (ranked fun r => { r with wide := some .exit })).ranks[(1 : RankNo)]).wide = some .exit
      ∧ ((after .warmResetAssert (ranked fun r => { r with wide := some .init })).ranks[(1 : RankNo)]).wide = some .init := by
  decide +kernel

/-! #### Tables -/

/-- The ends of the ranges of the byte operands. -/
theorem witness_byte_ranges :
    7 < (8 : Byte).toNat ∧ (7 : RegionIx).val = (7 : Byte).toNat ∧ 4 < (5 : Byte).toNat ∧ (4 : Byte).toNat ≤ 4
      ∧ 63 < (64 : Byte).toNat ∧ (63 : SlotIx).val = (63 : Byte).toNat ∧ 3 < (4 : Byte).toNat
      ∧ (3 : RankNo).val = (3 : Byte).toNat ∧ 15 < (16 : Byte).toNat ∧ (15 : BankNo).val = (15 : Byte).toNat
      ∧ 1 < (2 : Byte).toNat ∧ 31 < (32 : Byte).toNat ∧ (31 : Byte).toNat ≤ 31 ∧ 2 < (3 : Byte).toNat
      ∧ 5 < (6 : Byte).toNat ∧ ¬ ((2 : Byte) = 0 ∨ (2 : Byte) = 1) ∧ ((1 : Byte) = 0 ∨ (1 : Byte) = 1) := by decide

/-- A staged table that fails each check: range, overlap, the home row of a slot, its current and its next location, the
POOL set of a rank with a slot in use, and a region being rebuilt. -/
theorem witness_CommitIsWholeOrNothing_fails :
    ¬ (entry 4 0 0 .plain false 0).InRange ∧ ¬ (entry 3 1 1 .plain false 0).Apart (entry 2 0 1 .mirrored true 0)
      ∧ (slotted 0 (moved .active 4) ready).slots[(0 : SlotIx)] = some (moved .active 4)
      ∧ (∀ j : RegionIx, ¬ (((table.set 0 RegionEntry.reset)[j]).policy = .spared
        ∧ ((table.set 0 RegionEntry.reset)[j]).covers 0 0 = true))
      ∧ (∀ j : RegionIx, ¬ (((table.set 1 RegionEntry.reset)[j]).policy = .pool
        ∧ ((table.set 1 RegionEntry.reset)[j]).covers 0 4 = true))
      ∧ (moved .active 4).current ≠ (moved .active 4).home.row
      ∧ (moved (.pending 4) 0).nextRow = some { rank := 0, bank := 0, row := 4 }
      ∧ (table[(1 : RegionIx)]).covers 0 4 = true ∧ (table[(0 : RegionIx)]).covers 0 0 = true
      ∧ (mirror .rebuildShadow 0 0 ready).regionRebuilding 2 = true
      ∧ ¬ sameMirrored ready.active[(2 : RegionIx)] (table.set 2 RegionEntry.reset)[(2 : RegionIx)] := by
  unfold RegionEntry.InRange RegionEntry.Apart sameMirrored
  decide +kernel

/-- POOL stripes 4 to 7 staged in place of 4 to 6: the set of rank 0 changes, and with it the entry at index 1. -/
theorem witness_CommitIsWholeOrNothing_pool :
    poolStripe (table.set 1 (entry 0 4 7 .pool false 0)) 0 7 ∧ ¬ poolStripe table 0 7
      ∧ (table[(1 : RegionIx)]).last ≠ ((table.set 1 (entry 0 4 7 .pool false 0))[(1 : RegionIx)]).last
      ∧ (moved .active 4).home.rank = 0 := by
  unfold poolStripe
  decide +kernel

/-- A table that passes, with a slot in use whose rows stay in their regions and a region rebuilding that stays. -/
theorem witness_CommitIsWholeOrNothing :
    (copying 40 none (mirror .rebuildShadow 0 0 ready)).staged = table
      ∧ rowIn table .spared (moved (.copying 4) 0).home = true
      ∧ rowIn table .pool { rank := 0, bank := 0, row := 4 } = true
      ∧ (moved (.copying 4) 0).nextRow = some { rank := 0, bank := 0, row := 4 }
      ∧ sameMirrored ready.active[(2 : RegionIx)] ready.staged[(2 : RegionIx)]
      ∧ ready.patrol.cursor = some (0, 0) ∧ (ready.staged[(0 : RegionIx)]).patrol = true
      ∧ (∀ i : RegionIx, ¬ ((State.reset.staged[i]).valid = true ∧ (State.reset.staged[i]).patrol = true)) := by
  unfold sameMirrored
  decide +kernel

theorem witness_SparesAscend : spareAt ready.active 0 0 = some 4 ∧ spareAt ready.active 0 2 = some 6
    ∧ spareAt ready.active 0 3 = none ∧ poolStripe ready.active 0 6 := by
  unfold poolStripe
  decide +kernel

/-- A row in each of its cases: apart, moved away, the current location of an ACTIVE and of a PENDING entry, and the next
location of a PENDING and of a COPYING one; with a spare and without. -/
theorem witness_RetirementRequestsAreSorted :
    ready.rowApart { rank := 0, bank := 15, row := 3 }
      ∧ (∃ i p, decodeRow ready.active { rank := 0, bank := 15, row := 3 } = .region i .spared p)
      ∧ ready.lowestFree 0
      ∧ spareAt ready.active 0 ready.cursors[cursorIx 0 15] = some 4
      ∧ spareAt ready.active 0 ({ ready with cursors := Vector.replicate 64 3 } : State).cursors[cursorIx 0 15] = none
      ∧ (∀ n : SlotIx, (Vector.replicate 64 (some (moved .active 4)))[n] ≠ none)
      ∧ (slotted 63 (moved .active 4) ready).slots[(63 : SlotIx)] = some (moved .active 4)
      ∧ (moved .active 4).currentRow ≠ (moved .active 4).home
      ∧ (moved (.pending 4) 0).currentRow = (moved (.pending 4) 0).home ∧ (moved (.pending 4) 0).phase ≠ .active
      ∧ (moved (.copying 4) 0).nextRow = some { rank := 0, bank := 0, row := 4 }
      ∧ (moved (.pending 4) 0).nextRow = some { rank := 0, bank := 0, row := 4 }
      ∧ (∀ n : SlotIx, ∀ e ∈ (slotted 63 (moved .active 4) ready).slots[n],
        e.home = { rank := 0, bank := 0, row := 4 } → e.currentRow = { rank := 0, bank := 0, row := 4 })
      ∧ (∀ m : SlotIx, ∀ f ∈ (slotted 63 (moved .active 4) ready).slots[m],
        f.currentRow = { rank := 0, bank := 0, row := 4 } → m = 63)
      ∧ (∀ m : SlotIx, ∀ f ∈ (copying 40 none ready).slots[m],
        f.nextRow = some { rank := 0, bank := 0, row := 4 } → m = 0)
      ∧ (∀ n : SlotIx, ∀ e ∈ (copying 40 none ready).slots[n], e.currentRow ≠ { rank := 0, bank := 0, row := 4 })
      ∧ (copying 40 none ready).engine.job = some (rowJob 40 none)
      ∧ (rowJob 40 (some (step0 40 .reading (some 40) false))).step = some (step0 40 .reading (some 40) false)
      ∧ oldestFor (holding [{ la := 40, state := .held .poison }] [] ready).front.queue [] [] 40
        { la := 40, state := .held .poison } := by
  refine ⟨?_, ⟨0, true, by decide +kernel⟩, ?_, ?_⟩
  · unfold State.rowApart
    decide +kernel
  · unfold State.lowestFree
    decide +kernel
  · unfold oldestFor
    decide +kernel

theorem witness_RowsAreRetiredWithoutCopy :
    (shut ready).resetN = false ∧ ready.front.admission = .opened
      ∧ (holding [queuedEntry] [] (shut ready)).front.queue ≠ []
      ∧ (shut ready).front.admission = .closed ∧ (shut ready).front.tracker = [] ∧ (shut ready).front.queue = []
      ∧ (∀ m : SlotIx, ∀ f ∈ (slotted 63 (moved .active 4) (shut ready)).slots[m],
        f.currentRow = { rank := 0, bank := 0, row := 4 } ∨ f.nextRow = some { rank := 0, bank := 0, row := 4 } → m = 63)
      ∧ (∀ m : SlotIx, ∀ f ∈ (slotted 63 (moved (.pending 4) 0) (shut ready)).slots[m],
        f.currentRow = { rank := 0, bank := 0, row := 4 } ∨ f.nextRow = some { rank := 0, bank := 0, row := 4 }
          → m = 63) := by decide +kernel

theorem witness_SlotCommandsAnswer :
    (∃ e, (slotted 63 (moved .active 4) ready).slots[(63 : SlotIx)] = some e ∧ e.phase = .active)
      ∧ ready.slots[(63 : SlotIx)] = none := ⟨⟨moved .active 4, by decide +kernel⟩, by decide +kernel⟩

/-- A mirror record in each state, and none; a resync queued, in progress with a step in flight and without, and absent. -/
theorem witness_MirrorCommandsAnswer :
    ready.mirrors[(7 : RegionIx)] = none
      ∧ (∀ x ∈ [MirrorState.duplex, .simplexPrimary, .simplexShadow, .rebuildShadow, .rebuildPrimary],
        (mirror x 0 0 ready).mirrors[(2 : RegionIx)] = some (record x 0 0))
      ∧ JobRef.resync 2 ∉ ready.engine.queue ∧ (∀ j ∈ ready.engine.job, j.ref ≠ .resync 2)
      ∧ (engaged (job (.resync 2) (.sides .primary) 4096 5 none) (mirror .rebuildShadow 0 0 ready)).engine.job
        = some (job (.resync 2) (.sides .primary) 4096 5 none)
      ∧ (job (.resync 2) (.sides .primary) 4096 5 none).closed = false
      ∧ (job (.resync 2) (.sides .primary) 4096 5 (some (step0 5 .reading none false))).step
        = some (step0 5 .reading none false)
      ∧ JobRef.resync 2 ∈ ({ ready.engine with queue := [.resync 2] } : Engine).queue := by decide +kernel

theorem witness_SideCountsFailASide :
    ready.mirrors[(0 : RegionIx)] = none
      ∧ (mirror .duplex 3 2 ready).mirrors[(2 : RegionIx)] = some (record .duplex 3 2)
      ∧ (record .duplex 3 2).born = 1 ∧ (record .duplex 3 2).primaryCount = 3 ∧ (record .duplex 3 2).shadowCount ≠ 3
      ∧ (record .rebuildShadow 4 4).state ≠ .duplex ∧ (record .duplex 3 2).born ≠ 0 := by decide +kernel

theorem witness_EventsAreReadAndMasked_log :
    (logged 0 0 ready).log.records = [] ∧ (logged 32 65535 ready).log.lost ≠ 0
      ∧ (logged 1 0 ready).log.records = { seq := 0, event := .patrolPass 1 } :: [] ∧ ready.resetN = false := by
  decide +kernel

theorem witness_EventsAreReadAndMasked_mask :
    (∃ n : Fin 16, 12 ≤ n.val ∧ (0x1000 : BitVec 16).getLsbD n.val = true)
      ∧ ¬ (∃ n : Fin 16, 12 ≤ n.val ∧ (0x0FFF : BitVec 16).getLsbD n.val = true) := by decide

theorem witness_PortReportsTheState :
    ready.resetN = false ∧ ({ ready with tracker := fullTracker } : State).tracker[(31 : Byte).toNat]? = some (counted 31 1)
      ∧ ready.tracker[(0 : Byte).toNat]? = none := by decide +kernel

end Sys2Proof.Tests
end

section
/-! PROOFS. Lines (chapter 1): the decomposition of a line address is one-to-one (R1), and the positions of a run of
stripes number its lines in line address order (R2, R102). -/

namespace Sys2Proof.Machine

/-! ### The divisions of R1 -/

theorem colOf_val (la : LineAddr) : (colOf la).val = la.val % 128 := rfl

theorem homeRow_bank_val (la : LineAddr) : (homeRow la).bank.val = la.val / 128 % 16 := rfl

theorem homeRow_row_val (la : LineAddr) : (homeRow la).row.val = la.val / 2048 % 65536 := rfl

/-- No address lies above the four ranks, so the quotient needs no remainder. -/
theorem homeRow_rank_val (la : LineAddr) : (homeRow la).rank.val = la.val / 134217728 := by
  have hquot : la.val / 134217728 < 4 := by omega
  exact Nat.mod_eq_of_lt hquot

/-- Quotients and remainders put together again (R1). -/
theorem number_homeLoc (la : LineAddr) : (homeLoc la).number = la.val := by
  simp only [Loc.number, homeLoc, PhysRow.atCol, homeRow_rank_val, homeRow_row_val, homeRow_bank_val, colOf_val]
  omega

/-! ### The inverse of R1 -/

theorem Loc.number_lt (l : Loc) : l.number < 536870912 := by
  simp only [Loc.number]
  omega

theorem Loc.lineAddr_val (l : Loc) : l.lineAddr.val = l.number := Nat.mod_eq_of_lt l.number_lt

@[simp] theorem lineAddr_homeLoc (la : LineAddr) : (homeLoc la).lineAddr = la :=
  Fin.ext ((homeLoc la).lineAddr_val.trans (number_homeLoc la))

/-- The home location of a location's line address has its physical line number, and no two locations share one. -/
@[simp] theorem homeLoc_lineAddr (l : Loc) : homeLoc l.lineAddr = l :=
  Loc.number_inj _ _ ((number_homeLoc l.lineAddr).trans l.lineAddr_val)

/-! ### The positions of a run of stripes (R2, R13) -/

namespace RegionEntry

theorem positions_eq (e : RegionEntry) (hrun : e.first.toNat ≤ e.last.toNat) :
    e.positions = (e.last.toNat - e.first.toNat + 1) * 2048 := by
  rw [positions, Nat.sub_add_comm hrun]

/-- The run ends at or before the last stripe of its rank. -/
theorem first_add_positions_le (e : RegionEntry) (hrun : e.first.toNat ≤ e.last.toNat) :
    e.first.toNat * 2048 + e.positions ≤ 134217728 := by
  have hlast := e.last.isLt
  rw [e.positions_eq hrun]
  omega

section
variable (e : RegionEntry) (hrank : e.rank.toNat ≤ 3) (hrun : e.first.toNat ≤ e.last.toNat)
include hrank hrun

/-- The positions of a run are consecutive line addresses, none of them past the last line of the rank. -/
theorem lineAt_val {q : Nat} (hq : q < e.positions) :
    (e.lineAt q).val = e.rank.toNat * 134217728 + e.first.toNat * 2048 + q := by
  have hend := e.first_add_positions_le hrun
  exact Nat.mod_eq_of_lt (by omega)

theorem homeRow_lineAt_rank {q : Nat} (hq : q < e.positions) :
    (homeRow (e.lineAt q)).rank.val = e.rank.toNat := by
  have hend := e.first_add_positions_le hrun
  rw [homeRow_rank_val, e.lineAt_val hrank hrun hq]
  omega

theorem homeRow_lineAt_row {q : Nat} (hq : q < e.positions) :
    (homeRow (e.lineAt q)).row.val = e.first.toNat + q / 2048 := by
  have hend := e.first_add_positions_le hrun
  rw [homeRow_row_val, e.lineAt_val hrank hrun hq]
  omega

theorem homeRow_lineAt_bank {q : Nat} (hq : q < e.positions) :
    (homeRow (e.lineAt q)).bank.val = q / 128 % 16 := by
  rw [homeRow_bank_val, e.lineAt_val hrank hrun hq]
  omega

theorem colOf_lineAt {q : Nat} (hq : q < e.positions) : (colOf (e.lineAt q)).val = q % 128 := by
  rw [colOf_val, e.lineAt_val hrank hrun hq]
  omega

theorem positionOf_lineAt {q : Nat} (hq : q < e.positions) : e.positionOf (e.lineAt q) = q := by
  rw [positionOf, e.homeRow_lineAt_row hrank hrun hq, e.homeRow_lineAt_bank hrank hrun hq,
    e.colOf_lineAt hrank hrun hq]
  omega

end

/-- A line at or after the first line of a run of its rank is as far from it as its position says (R2). -/
theorem add_positionOf (e : RegionEntry) {la : LineAddr} (hrank : (homeRow la).rank.val = e.rank.toNat)
    (hfirst : e.first.toNat ≤ (homeRow la).row.val) :
    e.rank.toNat * 134217728 + e.first.toNat * 2048 + e.positionOf la = la.val := by
  rw [positionOf, ← hrank]
  rw [homeRow_row_val] at hfirst ⊢
  rw [homeRow_rank_val, homeRow_bank_val, colOf_val]
  omega

theorem positionOf_lt (e : RegionEntry) {la : LineAddr} (hfirst : e.first.toNat ≤ (homeRow la).row.val)
    (hlast : (homeRow la).row.val ≤ e.last.toNat) : e.positionOf la < e.positions := by
  simp only [positionOf, positions]
  omega

theorem lineAt_positionOf (e : RegionEntry) {la : LineAddr} (hrank : (homeRow la).rank.val = e.rank.toNat)
    (hfirst : e.first.toNat ≤ (homeRow la).row.val) : e.lineAt (e.positionOf la) = la := by
  rw [lineAt, e.add_positionOf hrank hfirst]
  exact Fin.ofNat_val_eq_self la

end RegionEntry

/-- Settles O9: the divisions of R1 and their inverse, then both directions of the numbering of a run of stripes. -/
theorem lineAddressesDecompose : Obligations.LineAddressesDecompose := by
  unfold Obligations.LineAddressesDecompose
  refine ⟨fun la => ?address, fun l => ?location, fun e hrank hrun => ⟨e.positions_eq hrun, fun q hq => ?position,
    fun la hla hfirst hlast => ?line⟩⟩
  case address =>
    exact ⟨colOf_val la, homeRow_bank_val la, homeRow_row_val la, homeRow_rank_val la, rfl, lineAddr_homeLoc la⟩
  case location => exact ⟨homeLoc_lineAddr l, l.lineAddr_val⟩
  case position =>
    exact ⟨e.lineAt_val hrank hrun hq, e.homeRow_lineAt_rank hrank hrun hq, e.homeRow_lineAt_row hrank hrun hq,
      e.homeRow_lineAt_bank hrank hrun hq, e.colOf_lineAt hrank hrun hq, e.positionOf_lineAt hrank hrun hq⟩
  case line => exact ⟨e.positionOf_lt hfirst hlast, e.lineAt_positionOf hla hfirst⟩

end Sys2Proof.Machine
end

section
/-! PROOFS. The region table (chapter 2): the first region index that satisfies a test, the decode of a stripe (R18),
and the commands STAGE_REGION (R15) and READ_REGION (R16). -/

namespace Sys2Proof.Machine

/-! ### The first region index that satisfies a test -/

theorem mem_regionIxs (i : RegionIx) : i ∈ regionIxs := by
  revert i
  decide

theorem find_regionIxs_eq_some_iff (test : RegionIx → Bool) (i : RegionIx) :
    regionIxs.find? test = some i ↔ test i = true ∧ ∀ j, j < i → test j = false := by
  have ascending : regionIxs = List.finRange 8 := by decide
  rw [ascending, List.find?_eq_some_iff_getElem]
  constructor
  · rintro ⟨here, n, hn, rfl, before⟩
    refine ⟨here, fun j hj => ?_⟩
    have hlt : j.val < n := by simpa [Fin.lt_def] using hj
    simpa using before j.val hlt
  · rintro ⟨here, before⟩
    refine ⟨here, i.val, by simp, by simp, fun n hn => ?_⟩
    simpa using before ⟨n, hn.trans i.isLt⟩ hn

theorem find_regionIxs_eq_none_iff (test : RegionIx → Bool) :
    regionIxs.find? test = none ↔ ∀ i, test i = false := by
  simp [List.find?_eq_none, mem_regionIxs]

/-! ### The two steps of the decode (R18) -/

theorem RegionEntry.covers_iff (e : RegionEntry) (k : RankNo) (n : RowNo) :
    e.covers k n = true ↔
      e.valid = true ∧ e.rank.toNat = k.val ∧ e.first.toNat ≤ n.val ∧ n.val ≤ e.last.toNat := by
  simp [RegionEntry.covers, RegionEntry.hasStripe, and_assoc]

/-- Step 2 of R18 for one entry: it is MIRRORED and its shadow range, on the odd rank above its own, covers the
stripe. -/
def RegionEntry.shadows (e : RegionEntry) (k : RankNo) (n : RowNo) : Bool :=
  decide (k.val % 2 = 1) && (decide (e.policy = .mirrored) && e.covers (k - 1) n)

theorem RegionEntry.shadows_iff (e : RegionEntry) (k : RankNo) (n : RowNo) :
    e.shadows k n = true ↔
      k.val % 2 = 1 ∧ e.valid = true ∧ e.policy = .mirrored ∧ e.rank.toNat + 1 = k.val
        ∧ e.first.toNat ≤ n.val ∧ n.val ≤ e.last.toNat := by
  have below : k.val % 2 = 1 → (k - 1).val + 1 = k.val := by
    revert k
    decide
  simp only [RegionEntry.shadows, Bool.and_eq_true, decide_eq_true_eq, RegionEntry.covers_iff]
  constructor
  · rintro ⟨odd, policy, valid, rank, run⟩
    exact ⟨odd, valid, policy, by rw [rank, below odd], run⟩
  · rintro ⟨odd, valid, policy, rank, run⟩
    have := below odd
    exact ⟨odd, policy, valid, by omega, run⟩

theorem shadowingEntry_eq_find (t : RegionTable) (k : RankNo) (n : RowNo) :
    shadowingEntry t k n = regionIxs.find? fun i => t[i].shadows k n := by
  by_cases odd : k.val % 2 = 1
  · simp [shadowingEntry, RegionEntry.shadows, odd]
  · have no_test : (regionIxs.find? fun i => t[i].shadows k n) = none :=
      (find_regionIxs_eq_none_iff _).2 fun i => by simp [RegionEntry.shadows, odd]
    rw [no_test, shadowingEntry, if_neg odd]

theorem decodeStripe_of_covers {t : RegionTable} {k : RankNo} {n : RowNo} {i : RegionIx}
    (here : t[i].covers k n = true) (before : ∀ j : RegionIx, j < i → t[j].covers k n = false) :
    decodeStripe t k n = .region i t[i].policy t[i].patrol := by
  have first : coveringEntry t k n = some i := (find_regionIxs_eq_some_iff _ i).2 ⟨here, before⟩
  simp only [decodeStripe, first]

section
variable {t : RegionTable} {k : RankNo} {n : RowNo} (uncovered : ∀ i : RegionIx, t[i].covers k n = false)
include uncovered

theorem coveringEntry_eq_none : coveringEntry t k n = none := (find_regionIxs_eq_none_iff _).2 uncovered

theorem decodeStripe_of_shadows {i : RegionIx} (here : t[i].shadows k n = true)
    (before : ∀ j : RegionIx, j < i → t[j].shadows k n = false) : decodeStripe t k n = .shadow i := by
  have first : shadowingEntry t k n = some i := by
    rw [shadowingEntry_eq_find]
    exact (find_regionIxs_eq_some_iff _ i).2 ⟨here, before⟩
  simp only [decodeStripe, coveringEntry_eq_none uncovered, first]

theorem decodeStripe_of_neither (unshadowed : ∀ i : RegionIx, t[i].shadows k n = false) :
    decodeStripe t k n = .undecoded := by
  have none_found : shadowingEntry t k n = none := by
    rw [shadowingEntry_eq_find]
    exact (find_regionIxs_eq_none_iff _).2 unshadowed
  simp only [decodeStripe, coveringEntry_eq_none uncovered, none_found]

end

/-! ### One entry at most in a sound table (R24) -/

/-- Runs that share a stripe number are not apart. -/
theorem RegionEntry.not_apart_of_stripe {e f : RegionEntry} {n : Nat} (he : e.first.toNat ≤ n ∧ n ≤ e.last.toNat)
    (hf : f.first.toNat ≤ n ∧ n ≤ f.last.toNat) : ¬ e.Apart f := by
  unfold RegionEntry.Apart
  omega

section
variable {t : RegionTable} {k : RankNo} {n : RowNo} (sound : tableSound t) {i j : RegionIx}
include sound

/-- Two entries of one rank that share a stripe are the same entry. -/
theorem eq_of_shared_stripe (hi : t[i].valid = true) (hj : t[j].valid = true)
    (rank : t[i].rank.toNat = t[j].rank.toNat) (runi : t[i].first.toNat ≤ n.val ∧ n.val ≤ t[i].last.toNat)
    (runj : t[j].first.toNat ≤ n.val ∧ n.val ≤ t[j].last.toNat) : i = j := by
  by_contra ne
  exact RegionEntry.not_apart_of_stripe runi runj
    (sound.2 i j hi hj (.inl ⟨ne, BitVec.eq_of_toNat_eq rank⟩))

theorem eq_of_covers (hi : t[i].covers k n = true) (hj : t[j].covers k n = true) : i = j := by
  obtain ⟨validi, ranki, runi⟩ := (t[i].covers_iff k n).1 hi
  obtain ⟨validj, rankj, runj⟩ := (t[j].covers_iff k n).1 hj
  exact eq_of_shared_stripe sound validi validj (ranki.trans rankj.symm) runi runj

theorem eq_of_shadows (hi : t[i].shadows k n = true) (hj : t[j].shadows k n = true) : i = j := by
  obtain ⟨-, validi, -, ranki, runi⟩ := (t[i].shadows_iff k n).1 hi
  obtain ⟨-, validj, -, rankj, runj⟩ := (t[j].shadows_iff k n).1 hj
  exact eq_of_shared_stripe sound validi validj (by omega) runi runj

/-- No entry reaches into the shadow range of a MIRRORED entry. -/
theorem not_covers_and_shadows : ¬ (t[i].covers k n = true ∧ t[j].shadows k n = true) := by
  rintro ⟨hi, hj⟩
  obtain ⟨validi, ranki, runi⟩ := (t[i].covers_iff k n).1 hi
  obtain ⟨-, validj, mirrored, rankj, runj⟩ := (t[j].shadows_iff k n).1 hj
  exact RegionEntry.not_apart_of_stripe runi runj
    (sound.2 i j validi validj (.inr ⟨mirrored, ranki.trans rankj.symm⟩))

end

/-- Settles O19: the statement's two conditions are the model's two tests, each search finds the lowest index that
passes its test, and the overlap check leaves room for one. -/
theorem stripesDecode : Obligations.StripesDecode := by
  unfold Obligations.StripesDecode
  intro t k n
  simp only [← RegionEntry.covers_iff, ← RegionEntry.shadows_iff, Bool.not_eq_true]
  refine ⟨fun i ⟨here, before⟩ => decodeStripe_of_covers here before,
    fun uncovered => ⟨fun i ⟨here, before⟩ => ?shadow, fun unshadowed => ?neither⟩,
    fun sound i j => ?atMostOne, fun b => rfl⟩
  case shadow => exact decodeStripe_of_shadows uncovered here before
  case neither => exact decodeStripe_of_neither uncovered unshadowed
  case atMostOne => exact ⟨eq_of_covers sound, eq_of_shadows sound, not_covers_and_shadows sound⟩

/-! ### The argument bytes of the two commands -/

theorem regionOf_of_val {b : Byte} {i : RegionIx} (h : i.val = b.toNat) : regionOf b = some i := by
  simp [regionOf, ← h]

theorem regionOf_of_gt {b : Byte} (h : 7 < b.toNat) : regionOf b = none := by
  have hge : ¬ b.toNat < 8 := by omega
  simp [regionOf, hge]

theorem flagOf_of_flag {b : Byte} (h : b = 0 ∨ b = 1) : flagOf b = some (decide (b = 1)) := by
  obtain rfl | rfl := h <;> rfl

theorem flagOf_of_not_flag {b : Byte} (h : ¬ (b = 0 ∨ b = 1)) : flagOf b = none := by
  obtain ⟨h0, h1⟩ := not_or.1 h
  rw [flagOf, if_neg h0, if_neg h1]

theorem policyOf_eq_some_iff {b : Byte} {p : Policy} : policyOf b = some p ↔ b = p.code := by
  constructor
  · intro h
    simp only [policyOf] at h
    split_ifs at h <;> obtain rfl := Option.some.inj h <;> assumption
  · rintro rfl
    cases p <;> rfl

theorem Policy.toNat_code_le (p : Policy) : p.code.toNat ≤ 4 := by cases p <;> decide

theorem Policy.exists_code_eq {b : Byte} (h : b.toNat ≤ 4) : ∃ p : Policy, p.code = b := by
  have codes : b = 0 ∨ b = 1 ∨ b = 2 ∨ b = 3 ∨ b = 4 := by bv_omega
  obtain rfl | rfl | rfl | rfl | rfl := codes
  exacts [⟨.plain, rfl⟩, ⟨.spared, rfl⟩, ⟨.mirrored, rfl⟩, ⟨.pool, rfl⟩, ⟨.closed, rfl⟩]

theorem policyOf_of_gt {b : Byte} (h : 4 < b.toNat) : policyOf b = none := by
  refine Option.eq_none_iff_forall_ne_some.2 fun p hp => ?_
  obtain rfl := policyOf_eq_some_iff.1 hp
  exact absurd p.toNat_code_le (Nat.not_le.2 h)

/-! ### STAGE_REGION and READ_REGION (R15, R16) -/

theorem State.stageRegion_eq_badArg (s : State) {index valid rank policy patrol threshold : Byte}
    {first last : BitVec 16}
    (h : regionOf index = none ∨ policyOf policy = none ∨ flagOf valid = none ∨ flagOf patrol = none) :
    s.stageRegion index valid rank first last policy patrol threshold = s.badArg := by
  simp only [State.stageRegion]
  split
  next hi hp hv hpt => simp [hi, hp, hv, hpt] at h
  next => rfl

theorem State.stageRegion_eq_ok (s : State) {index valid rank policy patrol threshold : Byte} {first last : BitVec 16}
    {i : RegionIx} {p : Policy} {v pt : Bool} (hi : regionOf index = some i) (hp : policyOf policy = some p)
    (hv : flagOf valid = some v) (hpt : flagOf patrol = some pt) :
    s.stageRegion index valid rank first last policy patrol threshold =
      { s with
        staged := s.staged.set i
          (RegionEntry.normalised
            { valid := v, rank := rank, first := first, last := last, policy := p, patrol := pt,
              threshold := threshold }) }.ok [] := by
  simp only [State.stageRegion, hi, hp, hv, hpt]

theorem State.readRegion_eq_badArg (s : State) {index selector : Byte}
    (h : regionOf index = none ∨ flagOf selector = none) : s.readRegion index selector = s.badArg := by
  obtain h | h := h <;> simp [State.readRegion, h]

theorem State.readRegion_eq_ok (s : State) {index selector : Byte} {i : RegionIx} {staged : Bool}
    (hi : regionOf index = some i) (hsel : flagOf selector = some staged) :
    s.readRegion index selector = s.ok (if staged then s.staged[i] else s.active[i]).bytes := by
  cases staged <;> simp [State.readRegion, hi, hsel]

theorem exec_stageRegion {s : State} (running : s.resetN = false)
    (index valid rank policy patrol threshold : Byte) (first last : BitVec 16) :
    exec (.stageRegion index valid rank first last policy patrol threshold) s =
      .next (s.stageRegion index valid rank first last policy patrol threshold) :=
  State.atPort_next s (fun s => s.stageRegion index valid rank first last policy patrol threshold) running

theorem exec_readRegion {s : State} (running : s.resetN = false) (index selector : Byte) :
    exec (.readRegion index selector) s = .next (s.readRegion index selector) :=
  State.atPort_next s (fun s => s.readRegion index selector) running

/-- The entry as stored, in the words of R15 about the policy's code: patrol stays for the three policies below POOL,
the threshold for SPARED. -/
theorem RegionEntry.normalised_eq (e : RegionEntry) :
    e.normalised =
      { e with
        patrol := e.patrol && decide (e.policy.code.toNat < 3)
        threshold := if e.policy.code = 1 then e.threshold else 0 } := by
  obtain ⟨valid, rank, first, last, policy, patrol, threshold⟩ := e
  cases policy <;> simp [RegionEntry.normalised, Policy.code]

/-- Settles O48: the argument bytes either fail one of their readings or give the entry that is stored or read. -/
theorem regionsAreStagedAndRead : Obligations.RegionsAreStagedAndRead := by
  unfold Obligations.RegionsAreStagedAndRead
  intro index valid rank policy patrol threshold selector first last s running
  simp only [exec_stageRegion running, exec_readRegion running]
  refine ⟨fun bad => ?stageBad, fun i hi hpolicy hvalid hpatrol => ?stageOk, fun bad => ?readBad, fun i hi => ?readOk⟩
  case stageBad =>
    have unread : regionOf index = none ∨ policyOf policy = none ∨ flagOf valid = none ∨ flagOf patrol = none :=
      bad.imp regionOf_of_gt (.imp policyOf_of_gt (.imp flagOf_of_not_flag flagOf_of_not_flag))
    rw [s.stageRegion_eq_badArg unread]
    rfl
  case stageOk =>
    obtain ⟨p, rfl⟩ := Policy.exists_code_eq hpolicy
    rw [s.stageRegion_eq_ok (regionOf_of_val hi) (policyOf_eq_some_iff.2 rfl) (flagOf_of_flag hvalid)
      (flagOf_of_flag hpatrol), RegionEntry.normalised_eq]
    cases p <;> rfl
  case readBad =>
    have not_flag : 1 < selector.toNat → ¬ (selector = 0 ∨ selector = 1) := by
      rintro h (rfl | rfl) <;> exact absurd h (by decide)
    rw [s.readRegion_eq_badArg (bad.imp regionOf_of_gt (flagOf_of_not_flag ∘ not_flag))]
    rfl
  case readOk =>
    refine ⟨?active, ?staged⟩
    case active =>
      rintro rfl
      rw [s.readRegion_eq_ok (regionOf_of_val hi) (flagOf_of_flag (.inl rfl))]
      rfl
    case staged =>
      rintro rfl
      rw [s.readRegion_eq_ok (regionOf_of_val hi) (flagOf_of_flag (.inr rfl))]
      rfl

end Sys2Proof.Machine
end

section
/-! PROOFS. Credits and admission (chapter 3): the CREDIT (R37), CLOSE_FRONT (R34) and OPEN_FRONT (R35), each by its
cases, and the response frames that the two commands answer with (R164, R167). -/

namespace Sys2Proof.Machine

/-! ### The response frames -/

theorem State.refuse_already (s : State) :
    s.refuse .already = { s with port := { s.port with response := [0x06, 0x02, 0x07, 0xFF, 0xF2] } } := rfl

theorem State.respond_busy (s : State) :
    s.respond .busy [] = { s with port := { s.port with response := [0x05, 0x00, 0xFB] } } := rfl

theorem State.ok_nil (s : State) :
    s.ok [] = { s with port := { s.port with response := [0x00, 0x00, 0x00] } } := rfl

/-! ### The CREDIT (R37) -/

theorem State.sendCredit_of_owed {s : State} (opened : s.front.admission = .opened)
    (started : s.front.creditsStarted = true) (owed : 0 < s.front.readOwed + s.front.writeOwed) :
    s.sendCredit =
      { s with
        sent := s.sent ++ [.credit s.front.readOwed s.front.writeOwed false]
        front := { s.front with
          readBalance := s.front.readBalance + s.front.readOwed
          writeBalance := s.front.writeBalance + s.front.writeOwed
          readOwed := 0
          writeOwed := 0 } } :=
  if_pos ⟨opened, started, owed⟩

/-! ### CLOSE_FRONT (R34) -/

theorem State.closeFront_of_closed {s : State} (closed : s.front.admission = .closed) :
    s.closeFront = s.refuse .already :=
  if_pos closed

theorem State.closeFront_of_opened {s : State} (opened : s.front.admission = .opened) :
    s.closeFront =
      { s with front := { s.front with
          admission := .closed, readBalance := 0, writeBalance := 0, readOwed := 0, writeOwed := 0 } }.ok [] :=
  if_neg (by simp [opened])

/-! ### OPEN_FRONT (R35) -/

theorem FrontLink.empty_eq_false_iff (f : FrontLink) : f.empty = false ↔ f.tracker ≠ [] ∨ f.queue ≠ [] := by
  simp [FrontLink.empty, imp_iff_not_or]

theorem FrontLink.empty_eq_true_iff (f : FrontLink) : f.empty = true ↔ ¬ (f.tracker ≠ [] ∨ f.queue ≠ []) := by
  rw [← f.empty_eq_false_iff, Bool.not_eq_false]

theorem State.openFront_of_opened {s : State} (opened : s.front.admission = .opened) :
    s.openFront = s.refuse .already :=
  if_pos opened

theorem State.openFront_of_held {s : State} (closed : s.front.admission = .closed) (held : s.front.empty = false) :
    s.openFront = s.respond .busy [] := by
  simp only [State.openFront, closed, held, reduceCtorEq, if_true, if_false]

section
variable {s : State} (closed : s.front.admission = .closed) (empty : s.front.empty = true)
include closed empty

/-- With credits started, the initial CREDIT goes out with the opening. -/
theorem State.openFront_of_started (started : s.front.creditsStarted = true) :
    s.openFront =
      { s with
        sent := s.sent ++ [HostMsg.credit 32 24 true]
        front := { s.front with admission := .opened, readBalance := 32, writeBalance := 24 } }.ok [] := by
  simp only [State.openFront, closed, empty, started, reduceCtorEq, if_true, if_false, State.initialCredit, State.send,
    Config.readCredits, Config.writeCredits]

/-- Before credits have started, admission opens and no message goes out. -/
theorem State.openFront_of_not_started (unstarted : s.front.creditsStarted = false) :
    s.openFront = { s with front := { s.front with admission := .opened } }.ok [] := by
  simp only [State.openFront, closed, empty, unstarted, reduceCtorEq, Bool.false_eq_true, if_false]

end

/-! ### The three commands -/

theorem exec_credit {s : State} (running : s.resetN = false) : exec .credit s = .next s.sendCredit :=
  State.live_next s State.sendCredit running

theorem exec_closeFront {s : State} (running : s.resetN = false) : exec .closeFront s = .next s.closeFront :=
  State.atPort_next s State.closeFront running

theorem exec_openFront {s : State} (running : s.resetN = false) : exec .openFront s = .next s.openFront :=
  State.atPort_next s State.openFront running

/-- Settles O17: each command by the admission state, and an OPEN_FRONT taken while CLOSED by the work held, then by
whether credits have started. -/
theorem creditsAndAdmission : Obligations.CreditsAndAdmission := by
  unfold Obligations.CreditsAndAdmission
  intro s running
  simp only [exec_credit running, exec_closeFront running, exec_openFront running]
  refine ⟨fun opened started owed => ?credit, fun closed => ?closeAlready, fun opened => ?close,
    fun opened => ?openAlready, fun closed => ?openClosed⟩
  case credit => rw [State.sendCredit_of_owed opened started owed]
  case closeAlready => rw [State.closeFront_of_closed closed, State.refuse_already]
  case close => rw [State.closeFront_of_opened opened, State.ok_nil]
  case openAlready => rw [State.openFront_of_opened opened, State.refuse_already]
  case openClosed =>
    split_ifs with held started
    · rw [State.openFront_of_held closed (s.front.empty_eq_false_iff.2 held), State.respond_busy]
    · rw [State.openFront_of_started closed (s.front.empty_eq_true_iff.2 held) started, State.ok_nil]
    · rw [State.openFront_of_not_started closed (s.front.empty_eq_true_iff.2 held)
        (Bool.eq_false_of_not_eq_true started), State.ok_nil]

end Sys2Proof.Machine
end

section
/-! PROOFS. The slot commands (chapter 5): RELEASE_SLOT by its checks in their order (R95), the record that READ_SLOT
answers with, and READ_CURSOR (R96). -/

namespace Sys2Proof.Machine

/-! ### The argument bytes of the three commands -/

theorem slotOf_of_val {b : Byte} {i : SlotIx} (h : i.val = b.toNat) : slotOf b = some i := by
  simp [slotOf, ← h]

theorem slotOf_of_gt {b : Byte} (h : 63 < b.toNat) : slotOf b = none := dif_neg (by omega)

theorem rankOf_of_val {b : Byte} {k : RankNo} (h : k.val = b.toNat) : rankOf b = some k := by
  simp [rankOf, ← h]

theorem rankOf_of_gt {b : Byte} (h : 3 < b.toNat) : rankOf b = none := dif_neg (by omega)

theorem bankOf_of_val {b : Byte} {k : BankNo} (h : k.val = b.toNat) : bankOf b = some k := by
  simp [bankOf, ← h]

theorem bankOf_of_gt {b : Byte} (h : 15 < b.toNat) : bankOf b = none := dif_neg (by omega)

/-! ### RELEASE_SLOT (R95) -/

theorem State.releaseSlot_eq_badArg (s : State) {number : Byte} (unread : slotOf number = none) :
    s.releaseSlot number = s.badArg := by
  rw [State.releaseSlot, unread]

section
variable {s : State} {number : Byte} {i : SlotIx} (named : slotOf number = some i)
include named

theorem State.releaseSlot_of_opened (opened : s.front.admission = .opened) :
    s.releaseSlot number = s.refuse .notClosed := by
  simp only [State.releaseSlot, named, opened, if_true]

theorem State.releaseSlot_of_held (closed : s.front.admission = .closed) (held : s.front.empty = false) :
    s.releaseSlot number = s.respond .busy [] := by
  simp only [State.releaseSlot, named, closed, held, reduceCtorEq, if_true, if_false]

theorem State.releaseSlot_of_active (closed : s.front.admission = .closed) (empty : s.front.empty = true)
    {e : SlotEntry} (used : s.slots[i] = some e) (active : e.phase = .active) :
    s.releaseSlot number = (s.setSlot i none).ok [] := by
  obtain ⟨home, current, phase, cause, lost⟩ := e
  obtain rfl : phase = .active := active
  simp only [State.releaseSlot, named, closed, empty, used, reduceCtorEq, if_false]

/-- A slot that is FREE, PENDING or COPYING is not released. -/
theorem State.releaseSlot_of_not_active (closed : s.front.admission = .closed) (empty : s.front.empty = true)
    (inactive : ¬ ∃ e, s.slots[i] = some e ∧ e.phase = .active) :
    s.releaseSlot number = s.refuse .state := by
  simp only [State.releaseSlot, named, closed, empty, reduceCtorEq, if_false]
  split
  next used => exact absurd ⟨_, used, rfl⟩ inactive
  next => rfl

end

/-! ### READ_SLOT (R96) -/

/-- The pointer of the copy window (R60) is the one that the model reads, of a job in progress or of none. -/
theorem State.windowP_of_windowIs {s : State} {ref : JobRef} {p : Nat} {stepping : Bool}
    (window : s.windowIs ref p stepping) : s.windowP ref = p := by
  unfold State.windowIs at window
  unfold State.windowP State.jobFor
  cases job : s.engine.job with
  | none =>
    rw [job] at window
    exact window.1.symm
  | some j =>
    simp only [job] at window ⊢
    split_ifs at window ⊢ <;> exact window.1.symm

theorem State.readSlot_eq_badArg (s : State) {number : Byte} (unread : slotOf number = none) :
    s.readSlot number = s.badArg := by
  rw [State.readSlot, unread]

section
variable {s : State} {number : Byte} {i : SlotIx} (named : slotOf number = some i)
include named

theorem State.readSlot_of_free (free : s.slots[i] = none) : s.readSlot number = s.ok [0] := by
  simp only [State.readSlot, named, State.slotBytes, free]

theorem State.readSlot_of_used {e : SlotEntry} (used : s.slots[i] = some e) :
    s.readSlot number =
      s.ok ([e.phase.code, byte1 e.home.rank.val, byte1 e.home.bank.val] ++ be16 e.home.row.val ++ be16 e.current.val
        ++ e.phase.nextBytes ++ [e.cause.code, byte1 e.lost, byte1 (s.slotPointer i e)]) := by
  simp only [State.readSlot, named, State.slotBytes, used]

end

theorem State.slotPointer_of_copying {s : State} {i : SlotIx} {e : SlotEntry} {n : RowNo} {p : Nat} {stepping : Bool}
    (copying : e.phase = .copying n) (window : s.windowIs (.rowMove i) p stepping) : s.slotPointer i e = p := by
  simp only [State.slotPointer, copying, State.windowP_of_windowIs window]

/-! ### READ_CURSOR (R96) -/

theorem State.readCursor_eq_badArg (s : State) {rank bank : Byte} (unread : rankOf rank = none ∨ bankOf bank = none) :
    s.readCursor rank bank = s.badArg := by
  obtain unread | unread := unread <;> simp [State.readCursor, unread]

theorem State.readCursor_eq_ok (s : State) {rank bank : Byte} {k : RankNo} {b : BankNo} (hk : rankOf rank = some k)
    (hb : bankOf bank = some b) :
    s.readCursor rank bank =
      s.ok (be32 s.cursors[cursorIx k b] ++ be32 (spareCount s.active k) ++
        (spareAt s.active k s.cursors[cursorIx k b]).elim [0, 0, 0] fun r => 1 :: be16 r.val) := by
  simp only [State.readCursor, hk, hb]
  cases spareAt s.active k s.cursors[cursorIx k b] <;> rfl

/-! ### The three commands -/

theorem exec_releaseSlot {s : State} (running : s.resetN = false) (number : Byte) :
    exec (.releaseSlot number) s = .next (s.releaseSlot number) :=
  State.atPort_next s (fun s => s.releaseSlot number) running

theorem exec_readSlot {s : State} (running : s.resetN = false) (number : Byte) :
    exec (.readSlot number) s = .next (s.readSlot number) :=
  State.atPort_next s (fun s => s.readSlot number) running

theorem exec_readCursor {s : State} (running : s.resetN = false) (rank bank : Byte) :
    exec (.readCursor rank bank) s = .next (s.readCursor rank bank) :=
  State.atPort_next s (fun s => s.readCursor rank bank) running

/-- Settles O55: each command by the reading of its argument bytes; then RELEASE_SLOT by its checks in their order,
READ_SLOT by the phase of the slot, and READ_CURSOR by whether a spare is left. -/
theorem slotCommandsAnswer : Obligations.SlotCommandsAnswer := by
  unfold Obligations.SlotCommandsAnswer
  intro number rank bank s running
  simp only [exec_releaseSlot running, exec_readSlot running, exec_readCursor running]
  refine ⟨fun big => ?slotBad, fun i hi => ?slot, fun big => ?cursorBad, fun k b hk hb => ?cursor⟩
  case slotBad =>
    have unread := slotOf_of_gt big
    rw [s.releaseSlot_eq_badArg unread, s.readSlot_eq_badArg unread]
    exact ⟨rfl, rfl⟩
  case slot =>
    have named := slotOf_of_val hi
    refine ⟨fun opened => ?opened, fun closed held => ?held,
      fun closed noReads noEntries => ⟨fun ⟨e, used, active⟩ => ?release, fun inactive => ?inactive⟩,
      fun free => ?free, fun e p used window => ?used⟩
    case opened =>
      rw [State.releaseSlot_of_opened named opened]
      rfl
    case held =>
      rw [State.releaseSlot_of_held named closed (s.front.empty_eq_false_iff.2 held)]
      rfl
    case release =>
      have empty := s.front.empty_eq_true_iff.2 (by simp [noReads, noEntries])
      rw [State.releaseSlot_of_active named closed empty used active]
      rfl
    case inactive =>
      have empty := s.front.empty_eq_true_iff.2 (by simp [noReads, noEntries])
      rw [State.releaseSlot_of_not_active named closed empty inactive]
      rfl
    case free =>
      rw [State.readSlot_of_free named free]
      rfl
    case used =>
      rw [State.readSlot_of_used named used]
      cases phase : e.phase with
      | pending n =>
        simp only [State.slotPointer, phase]
        rfl
      | copying n =>
        rw [State.slotPointer_of_copying phase window]
        rfl
      | active =>
        simp only [State.slotPointer, phase]
        rfl
  case cursorBad =>
    rw [s.readCursor_eq_badArg (big.imp rankOf_of_gt bankOf_of_gt)]
    rfl
  case cursor =>
    rw [s.readCursor_eq_ok (rankOf_of_val hk) (bankOf_of_val hb)]
    cases spareAt s.active k s.cursors[cursorIx k b] <;> rfl

end Sys2Proof.Machine
end

section
/-! PROOFS. The event log (chapter 10): the log at power-on reset (R160), the bytes of an event record (section 11.6),
and the commands PEEK_EVENT, POP_EVENT (R156, R157) and SET_ALERT_MASK (R159). -/

namespace Sys2Proof.Machine

/-! ### Power-on reset (R160) -/

theorem exec_powerOnReset (straps : BitVec 2) (s : State) :
    exec (.powerOnReset straps) s = .next (s.powerOn straps) := rfl

@[simp] theorem State.powerOn_log (s : State) (straps : BitVec 2) : (s.powerOn straps).log = EventLog.reset := rfl

/-- Settles O6: the log of the state after power-on reset is the log of R160, whose fields are the ones stated. -/
theorem powerOnResetsTheLog : Obligations.PowerOnResetsTheLog := by
  unfold Obligations.PowerOnResetsTheLog
  intro straps s
  refine ⟨s.powerOn straps, exec_powerOnReset straps s, ?_⟩
  rw [State.powerOn_log]
  rfl

/-! ### The bytes of an event record (section 11.6) -/

theorem be16_eq_bytes (n : Nat) : be16 n = [BitVec.ofNat 8 (n / 256), BitVec.ofNat 8 n] := by
  have high : (BitVec.ofNat 16 n).extractLsb' 8 8 = BitVec.ofNat 8 (n / 256) := by
    apply BitVec.eq_of_toNat_eq
    simp only [BitVec.extractLsb'_toNat, BitVec.toNat_ofNat, Nat.shiftRight_eq_div_pow]
    omega
  have low : (BitVec.ofNat 16 n).extractLsb' 0 8 = BitVec.ofNat 8 n := by
    apply BitVec.eq_of_toNat_eq
    simp only [BitVec.extractLsb'_toNat, BitVec.toNat_ofNat, Nat.shiftRight_zero]
    omega
  rw [be16, bytes16, high, low]

theorem bytes16_eq_be16_toNat (w : BitVec 16) : bytes16 w = be16 w.toNat := by
  rw [be16, BitVec.ofNat_toNat, BitVec.setWidth_eq]

theorem Side.code_eq_ite (x : Side) : x.code = if x = .primary then 0 else 1 := by cases x <;> rfl

theorem SideCause.code_eq_ite (c : SideCause) : c.code = if c = .threshold then 0 else 2 := by cases c <;> rfl

/-- The fields of every kind end within the twelve bytes of the record, whose first three are number and kind. -/
theorem Event.length_fieldBytes_le (e : Event) : e.fieldBytes.length ≤ 9 := by
  cases e <;> simp [Event.fieldBytes, Loc.bytes, PhysRow.bytes, be32, be16, bytes16]

/-- Filling up to a length is adding enough 0x00 and cutting at that length. -/
theorem padTo_eq_take {n k : Nat} {bs : List Byte} (fits : bs.length ≤ n) (enough : n ≤ bs.length + k) :
    padTo n bs = (bs ++ List.replicate k 0).take n := by
  rw [padTo, List.take_append, List.take_of_length_le fits, List.take_replicate, Nat.min_eq_left (by omega)]

theorem EventRecord.bytes_eq_take (r : EventRecord) :
    r.bytes =
      (be16 r.seq.toNat ++ byte1 r.event.kindCode :: r.event.fieldBytes ++ List.replicate 9 0).take 12 := by
  have short := r.event.length_fieldBytes_le
  have header : (be16 r.seq.toNat ++ byte1 r.event.kindCode :: r.event.fieldBytes).length =
      r.event.fieldBytes.length + 3 := by
    rw [be16_eq_bytes]
    rfl
  rw [EventRecord.bytes, bytes16_eq_be16_toNat, padTo_eq_take (k := 9) (by omega) (by omega)]

/-! ### The alert mask (R159) -/

/-- The twelve lowest bits are the flags of the twelve kinds: a mask of 4096 or more has another flag. -/
theorem mask_lt_iff (mask : BitVec 16) :
    mask.toNat < 4096 ↔ ¬ ∃ n : Fin 16, 12 ≤ n.val ∧ mask.getLsbD n.val = true := by
  constructor
  · rintro small ⟨n, high, flag⟩
    have below : mask.toNat < 2 ^ n.val := small.trans_le (Nat.pow_le_pow_right (n := 2) (by decide) high)
    simp [BitVec.getLsbD, Nat.testBit_lt_two_pow below] at flag
  · intro unflagged
    refine Nat.lt_pow_two_of_testBit (n := 12) _ fun n high => ?_
    by_cases inside : n < 16
    · exact Bool.eq_false_of_not_eq_true fun flag => unflagged ⟨⟨n, inside⟩, high, flag⟩
    · exact BitVec.getLsbD_of_ge mask n (Nat.le_of_not_lt inside)

theorem State.setAlertMask_eq_ok (s : State) {mask : BitVec 16} (kinds : mask.toNat < 4096) :
    s.setAlertMask mask =
      { s with log := { s.log with mask := mask, alert := alertCondition mask s.log.records } }.ok [] :=
  if_pos kinds

theorem State.setAlertMask_eq_badArg (s : State) {mask : BitVec 16} (other : ¬ mask.toNat < 4096) :
    s.setAlertMask mask = s.badArg :=
  if_neg other

/-! ### PEEK_EVENT and POP_EVENT (R156, R157) -/

section
variable {s : State}

theorem State.peekEvent_of_empty (empty : s.log.records = []) : s.peekEvent = s.respond .empty [] := by
  simp only [State.peekEvent, empty]

theorem State.popEvent_of_empty (empty : s.log.records = []) : s.popEvent = s.respond .empty [] := by
  simp only [State.popEvent, empty]

variable {r : EventRecord} {rest : List EventRecord}

theorem State.peekEvent_of_oldest (oldest : s.log.records = r :: rest) :
    s.peekEvent = s.ok (s.log.answerBytes r) := by
  simp only [State.peekEvent, oldest]

theorem State.popEvent_of_oldest (oldest : s.log.records = r :: rest) :
    s.popEvent = { s with log := s.log.pop }.ok (s.log.pop.answerBytes r) := by
  simp only [State.popEvent, oldest]

end

/-- The log after a pop in one form, whether events were lost or not. -/
theorem EventLog.pop_eq_of_oldest {l : EventLog} {r : EventRecord} {rest held : List EventRecord}
    (oldest : l.records = r :: rest)
    (left : held = if l.lost = 0 then rest else rest ++ [{ seq := l.nextSeq, event := .logLost l.lost }]) :
    l.pop =
      { records := held
        nextSeq := if l.lost = 0 then l.nextSeq else l.nextSeq + 1
        lost := 0
        mask := l.mask
        alert := alertCondition l.mask held } := by
  subst left
  by_cases none_lost : l.lost = 0
  · simp [l.pop_none_lost none_lost, oldest, none_lost]
  · simp [l.pop_some_lost none_lost, oldest, none_lost]

/-! ### The three commands -/

theorem exec_peekEvent {s : State} (running : s.resetN = false) : exec .peekEvent s = .next s.peekEvent :=
  State.atPort_next s State.peekEvent running

theorem exec_popEvent {s : State} (running : s.resetN = false) : exec .popEvent s = .next s.popEvent :=
  State.atPort_next s State.popEvent running

theorem exec_setAlertMask {s : State} (running : s.resetN = false) (mask : BitVec 16) :
    exec (.setAlertMask mask) s = .next (s.setAlertMask mask) :=
  State.atPort_next s (fun s => s.setAlertMask mask) running

/-- Settles O58: the layouts of the statement are the model's, kind by kind; then PEEK and POP by whether the log is
empty, and the mask by whether it has a flag outside the twelve kinds. -/
theorem eventsAreReadAndMasked : Obligations.EventsAreReadAndMasked := by
  unfold Obligations.EventsAreReadAndMasked
  intro mask s running byte two row line side kind record alert
  have two_eq (n : Nat) : two n = be16 n := (be16_eq_bytes n).symm
  have row_eq (r : PhysRow) : row r = r.bytes := by
    simp only [row, two_eq]
    rfl
  have line_eq (l : Loc) : line l = l.bytes := by
    simp only [line, two_eq]
    rfl
  have side_eq (x : Side) : side x = x.code := x.code_eq_ite.symm
  have code_eq (e : Event) : (kind e).1 = e.kindCode := by cases e <;> rfl
  have fields_eq (e : Event) : (kind e).2 = e.fieldBytes := by
    cases e with
    | resetSeen | moveDone | refreshLate => rfl
    | uncorrectable source =>
      simp only [kind, line_eq]
      cases source <;> rfl
    | retireStarted _ _ cause =>
      simp only [kind, row_eq]
      cases cause <;> rfl
    | retireRefused _ why =>
      simp only [kind, row_eq]
      cases why <;> rfl
    | mirrorRepaired =>
      simp only [kind, side_eq, line_eq]
      rfl
    | mirrorSideFailed _ _ cause =>
      simp only [kind, side_eq, ← cause.code_eq_ite]
      rfl
    | requestRefused _ why =>
      simp only [kind, line_eq]
      cases why <;> rfl
    | patrolPass n =>
      simp only [kind, two_eq, ← bytes16_eq_be16_toNat]
      rfl
    | resyncDone | logLost =>
      simp only [kind, two_eq]
      rfl
  have record_eq (r : EventRecord) : record r = r.bytes := by
    simp only [record, two_eq, code_eq, fields_eq]
    exact r.bytes_eq_take.symm
  have alert_eq (m : BitVec 16) (held : List EventRecord) : alert m held = alertCondition m held := by
    simp only [alert, code_eq]
    rfl
  simp only [exec_peekEvent running, exec_popEvent running, exec_setAlertMask running, record_eq, alert_eq, two_eq]
  refine ⟨fun empty => ?empty, fun r rest oldest => ?oldest, ?mask⟩
  case empty =>
    rw [State.peekEvent_of_empty empty, State.popEvent_of_empty empty]
    exact ⟨rfl, rfl⟩
  case oldest =>
    rw [State.peekEvent_of_oldest oldest, State.popEvent_of_oldest oldest, EventLog.pop_eq_of_oldest oldest rfl]
    exact ⟨rfl, rfl⟩
  case mask =>
    split_ifs with flagged
    · rw [s.setAlertMask_eq_badArg fun kinds => (mask_lt_iff mask).1 kinds flagged]
      rfl
    · rw [s.setAlertMask_eq_ok ((mask_lt_iff mask).2 flagged)]
      rfl

end Sys2Proof.Machine
end

section
/-! PROOFS. What every step keeps: for two states, that the second meets each invariant the first meets and has the same
commands waiting. It is proved once for each operation of the model and put together along the model's own definitions;
here are the relation, its use for each block, and the invariants of the blocks that stand alone. -/

namespace Sys2Proof.Machine

/-! ### The relation -/

/-- What `s` meets of the invariants that one state after another keeps, `t` meets, and the commands that wait are the same.
The spare cursors are kept over sound regions and distinct home rows. -/
structure Keeps (s t : State) : Prop where
  pending : t.pending = s.pending
  store : s.StoreSound → t.StoreSound
  log : s.log.Sound → t.log.Sound
  front : s.front.Sound → t.front.Sound
  ranks : s.RanksSound → t.RanksSound
  tracker : s.TrackerSound → t.TrackerSound
  regions : s.RegionsSound → t.RegionsSound
  homes : s.HomesApart → t.HomesApart
  spares : s.RegionsSound → s.HomesApart → s.SparesSound → t.SparesSound
  jobs : s.JobsSound → t.JobsSound

namespace Keeps

variable {s t u : State}

theorem refl (s : State) : Keeps s s := ⟨rfl, id, id, id, id, id, id, id, fun _ _ h => h, id⟩

theorem trans (h : Keeps s t) (g : Keeps t u) : Keeps s u where
  pending := g.pending.trans h.pending
  store := g.store ∘ h.store
  log := g.log ∘ h.log
  front := g.front ∘ h.front
  ranks := g.ranks ∘ h.ranks
  tracker := g.tracker ∘ h.tracker
  regions := g.regions ∘ h.regions
  homes := g.homes ∘ h.homes
  spares := fun r a p => g.spares (h.regions r) (h.homes a) (h.spares r a p)
  jobs := g.jobs ∘ h.jobs

/-- No invariant kept here speaks of the patrol unit, the quiesce controller and its pins, the counters, the service port or
the model's own numbers. -/
theorem aside (s : State) (patrol : Patrol) (quiesce : QuiesceState) (qreq qack resetN : Bool) (counters : Counters)
    (port : ServicePort) (powerCycles commits : Nat) (sent : List HostMsg) :
    Keeps s { s with
      patrol := patrol, quiesce := quiesce, qreq := qreq, qack := qack, resetN := resetN, counters := counters,
      port := port, powerCycles := powerCycles, commits := commits, sent := sent } :=
  ⟨rfl, id, id, id, id, id, id, id, fun _ _ h => h, id⟩

theorem of_front (f : FrontLink) (h : s.front.Sound → f.Sound) : Keeps s { s with front := f } :=
  ⟨rfl, id, id, h, id, id, id, id, fun _ _ h => h, id⟩

/-- A change of the front link and of what no invariant speaks of. -/
theorem of_front_eq (same : t = { s with
      front := t.front, patrol := t.patrol, quiesce := t.quiesce, qreq := t.qreq, qack := t.qack, resetN := t.resetN,
      counters := t.counters, port := t.port, powerCycles := t.powerCycles, commits := t.commits, sent := t.sent })
    (h : s.front.Sound → t.front.Sound) : Keeps s t := by
  rw [same]
  exact ⟨rfl, id, id, h, id, id, id, id, fun _ _ h => h, id⟩

/-- A change of the ranks and of what no invariant speaks of. -/
theorem of_ranks_eq (same : t = { s with
      ranks := t.ranks, patrol := t.patrol, quiesce := t.quiesce, qreq := t.qreq, qack := t.qack, resetN := t.resetN,
      counters := t.counters, port := t.port, powerCycles := t.powerCycles, commits := t.commits, sent := t.sent })
    (h : s.RanksSound → t.RanksSound) : Keeps s t := by
  rw [same]
  exact ⟨rfl, id, id, id, h, id, id, id, fun _ _ h => h, id⟩

theorem of_log (l : EventLog) (h : s.log.Sound → l.Sound) : Keeps s { s with log := l } :=
  ⟨rfl, id, h, id, id, id, id, id, fun _ _ h => h, id⟩

theorem of_store (m : Store) (h : s.store.wf = true → m.wf = true) : Keeps s { s with store := m } :=
  ⟨rfl, h, id, id, id, id, id, id, fun _ _ h => h, id⟩

theorem of_tracker (l : List TrackerEntry) (h : s.TrackerSound → State.TrackerSound { s with tracker := l }) :
    Keeps s { s with tracker := l } :=
  ⟨rfl, id, id, id, id, h, id, id, fun _ _ h => h, id⟩

theorem of_ranks (v : Vector RankSched 4) (h : s.RanksSound → State.RanksSound { s with ranks := v }) :
    Keeps s { s with ranks := v } :=
  ⟨rfl, id, id, id, h, id, id, id, fun _ _ h => h, id⟩

theorem of_engine (e : Engine) (h : s.JobsSound → State.JobsSound { s with engine := e }) :
    Keeps s { s with engine := e } :=
  ⟨rfl, id, id, id, id, id, id, id, fun _ _ h => h, h⟩

/-- An operation under a condition. -/
theorem ite {c : Prop} [Decidable c] (ht : c → Keeps s t) (hu : ¬ c → Keeps s u) : Keeps s (if c then t else u) := by
  split
  next h => exact ht h
  next h => exact hu h

end Keeps

/-! ### The stored lines (log entry 5) -/

theorem storeForm_keeps (s : State) (l : Loc) (f : LineForm) : Keeps s (s.storeForm l f) :=
  .of_store _ (Store.wf_write _ _ _)

theorem disturbed_keeps (s : State) (l : Loc) (d : Option StoredLine) : Keeps s (s.disturbed l d) := by
  cases d with
  | none => exact .refl s
  | some x => exact .of_store _ (Store.wf_write _ _ _)

theorem onCounters_keeps (s : State) (f : Counters → Counters) : Keeps s (s.onCounters f) := .aside s ..

theorem sense_keeps (s : State) (l : Loc) (d : Option StoredLine) : Keeps s (s.sense l d).1 :=
  (disturbed_keeps s l d).trans (.aside (s.disturbed l d) ..)

theorem respond_keeps (s : State) (r : Result) (p : List Byte) : Keeps s (s.respond r p) := .aside s ..

theorem send_keeps (s : State) (m : HostMsg) : Keeps s (s.send m) := .aside s ..

/-! ### The event log (R154, R155, R156, R158) -/

theorem EventLog.numbered_append {l : EventLog} (h : l.numbered) (e : Event) (lost : Nat) (mask : BitVec 16)
    (alert : Bool) :
    EventLog.numbered
      { records := l.records ++ [{ seq := l.nextSeq, event := e }], nextSeq := l.nextSeq + 1, lost := lost, mask := mask,
        alert := alert } := by
  intro ⟨i, hi⟩
  simp only [List.length_append, List.length_singleton] at hi ⊢
  simp only [Fin.getElem_fin]
  by_cases last : i < l.records.length
  · rw [List.getElem_append_left last]
    have here := h ⟨i, last⟩
    simp only [Fin.getElem_fin] at here
    rw [here, show l.records.length + 1 - i = (l.records.length - i) + 1 by omega]
    simp only [BitVec.ofNat_add]
    bv_omega
  · obtain rfl : i = l.records.length := by omega
    simp

theorem EventLog.numbered_tail {l : EventLog} (h : l.numbered) {r : EventRecord} {rest : List EventRecord}
    (oldest : l.records = r :: rest) (lost : Nat) (mask : BitVec 16) (alert : Bool) :
    EventLog.numbered { records := rest, nextSeq := l.nextSeq, lost := lost, mask := mask, alert := alert } := by
  obtain ⟨records, nextSeq, _, _, _⟩ := l
  subst oldest
  intro ⟨i, hi⟩
  have here := h ⟨i + 1, by simpa using hi⟩
  simpa using here

theorem EventLog.Sound.offer {l : EventLog} (h : l.Sound) (e : Event) : (l.offer e).Sound := by
  obtain ⟨bound, numbered, few, full, alert⟩ := h
  by_cases room : l.records.length < 32
  · rw [l.offer_room e room]
    have kept : l.lost = 0 := by
      by_contra some_lost
      have := full (by omega)
      omega
    refine ⟨?_, EventLog.numbered_append numbered e _ _ _, few, fun some_lost => ?_, rfl⟩
    · simpa using room
    · exact absurd some_lost (by simp [kept])
  · rw [l.offer_full e room]
    exact ⟨bound, numbered, Nat.min_le_left _ _, fun _ => Nat.le_antisymm bound (Nat.le_of_not_lt room), alert⟩

theorem EventLog.Sound.pop {l : EventLog} (h : l.Sound) {r : EventRecord} {rest : List EventRecord}
    (oldest : l.records = r :: rest) : l.pop.Sound := by
  obtain ⟨bound, numbered, few, full, -⟩ := h
  have short : rest.length < 32 := by
    rw [oldest] at bound
    exact bound
  rw [EventLog.pop_eq_of_oldest oldest rfl]
  split_ifs with none_lost
  · exact ⟨short.le, EventLog.numbered_tail numbered oldest _ _ _, by simp, by simp, rfl⟩
  · refine ⟨?_, ?_, by simp, by simp, rfl⟩
    · simpa using short
    · exact EventLog.numbered_append (EventLog.numbered_tail numbered oldest 0 l.mask false) _ _ _ _

theorem EventLog.Sound.masked {l : EventLog} (h : l.Sound) (mask : BitVec 16) :
    ({ l with mask := mask }.judged).Sound := by
  obtain ⟨bound, numbered, few, full, -⟩ := h
  exact ⟨bound, numbered, few, full, rfl⟩

theorem EventLog.Sound.reset : EventLog.reset.Sound := by
  refine ⟨by decide, ?_, by decide, by decide, by decide⟩
  unfold EventLog.numbered
  decide

theorem offer_keeps (s : State) (e : Event) : Keeps s (s.offer e) := .of_log _ fun h => h.offer e

/-! ### The error tracker (R138, R139, R140) -/

/-- The tracker's invariant as one of the list. -/
def trackerSound (t : List TrackerEntry) : Prop :=
  t.length ≤ 32 ∧ (t.map (·.row)).Nodup ∧ ∀ e ∈ t, 1 ≤ e.count ∧ e.count ≤ 255

theorem State.trackerSound_iff (s : State) : s.TrackerSound ↔ trackerSound s.tracker := Iff.rfl

theorem trackerSound.sublist {t u : List TrackerEntry} (h : trackerSound t) (sub : u.Sublist t) : trackerSound u := by
  obtain ⟨short, rows, counts⟩ := h
  exact ⟨sub.length_le.trans short, rows.sublist (sub.map _), fun e he => counts e (sub.subset he)⟩

theorem map_row_replaceFirst (test : TrackerEntry → Bool) (n : Nat) (t : List TrackerEntry) :
    (replaceFirst test (fun x => { x with count := n }) t).map (·.row) = t.map (·.row) := by
  induction t with
  | nil => rfl
  | cons e t ih =>
    simp only [replaceFirst]
    split
    · rfl
    · simp [ih]

theorem mem_replaceFirst {α : Type} {test : α → Bool} {f : α → α} {l : List α} {y : α} (h : y ∈ replaceFirst test f l) :
    y ∈ l ∨ ∃ x ∈ l, y = f x := by
  induction l with
  | nil => exact .inl h
  | cons a l ih =>
    simp only [replaceFirst] at h
    split at h
    · rcases List.mem_cons.1 h with rfl | h
      · exact .inr ⟨a, by simp, rfl⟩
      · exact .inl (by simp [h])
    · rcases List.mem_cons.1 h with rfl | h
      · exact .inl (by simp)
      · rcases ih h with h | ⟨x, hx, rfl⟩
        · exact .inl (by simp [h])
        · exact .inr ⟨x, by simp [hx], rfl⟩

theorem trackerSound.recount {t : List TrackerEntry} (h : trackerSound t) (test : TrackerEntry → Bool) {n : Nat}
    (low : 1 ≤ n) (high : n ≤ 255) : trackerSound (replaceFirst test (fun x => { x with count := n }) t) := by
  obtain ⟨short, rows, counts⟩ := h
  refine ⟨by rwa [replaceFirst_length], by rwa [map_row_replaceFirst], fun e he => ?_⟩
  rcases mem_replaceFirst he with old | ⟨x, -, rfl⟩
  · exact counts e old
  · exact ⟨low, high⟩

/-- A list that is not empty has an entry of its lowest count. -/
theorem exists_count_eq_lowestCount {t : List TrackerEntry} (h : t ≠ []) : ∃ e ∈ t, e.count = lowestCount t := by
  induction t with
  | nil => exact absurd rfl h
  | cons e t ih =>
    cases t with
    | nil => exact ⟨e, by simp, rfl⟩
    | cons f t =>
      obtain ⟨g, hg, low⟩ := ih (by simp)
      simp only [lowestCount]
      rcases Nat.le_total e.count (lowestCount (f :: t)) with le | le
      · exact ⟨e, by simp, (Nat.min_eq_left le).symm⟩
      · exact ⟨g, List.mem_cons_of_mem _ hg, low.trans (Nat.min_eq_right le).symm⟩

theorem trackerRoom_sublist (t : List TrackerEntry) : (trackerRoom t).Sublist t := by
  simp only [trackerRoom]
  split
  · exact List.Sublist.refl t
  · exact List.eraseP_sublist

theorem length_trackerRoom_lt {t : List TrackerEntry} (short : t.length ≤ 32) : (trackerRoom t).length < 32 := by
  simp only [trackerRoom, Config.trackerSize]
  split
  next room => exact room
  next full =>
    have nonempty : t ≠ [] := by
      rintro rfl
      simp at full
    obtain ⟨e, he, low⟩ := exists_count_eq_lowestCount nonempty
    rw [List.length_eraseP_of_mem he (by simpa using low)]
    omega

theorem trackerSound.join {t : List TrackerEntry} (h : trackerSound t) {e : TrackerEntry} (count : e.count = 1)
    (apart : ∀ x ∈ t, x.row ≠ e.row) : trackerSound (trackerRoom t ++ [e]) := by
  have room := length_trackerRoom_lt h.1
  have sub := trackerRoom_sublist t
  obtain ⟨-, rows, counts⟩ := h.sublist sub
  refine ⟨by simpa using room, ?_, fun x hx => ?_⟩
  · rw [List.map_append, List.nodup_append]
    refine ⟨rows, by simp, fun r hr x hx => ?_⟩
    obtain ⟨y, hy, rfl⟩ := List.mem_map.1 hr
    obtain rfl : x = e.row := by simpa using hx
    exact apart y (sub.subset hy)
  · rcases List.mem_append.1 hx with old | new
    · exact counts x old
    · obtain rfl : x = e := by simpa using new
      simp [count]

theorem map_row_decay_sublist (t : List TrackerEntry) : ((decay t).map (·.row)).Sublist (t.map (·.row)) := by
  have halved : (t.map fun e => { e with count := e.count / 2 }).map (·.row) = t.map (·.row) := by
    simp [Function.comp_def]
  rw [← halved]
  exact List.filter_sublist.map _

theorem trackerSound.decay {t : List TrackerEntry} (h : trackerSound t) : trackerSound (decay t) := by
  obtain ⟨short, rows, counts⟩ := h
  have sub := map_row_decay_sublist t
  refine ⟨by simpa using sub.length_le.trans (by simpa using short), rows.sublist sub, fun e he => ?_⟩
  obtain ⟨halved, positive⟩ := List.mem_filter.1 he
  obtain ⟨x, hx, rfl⟩ := List.mem_map.1 halved
  have := (counts x hx).2
  have : x.count / 2 ≠ 0 := by simpa using positive
  refine ⟨?_, ?_⟩ <;> simp only <;> omega

theorem trackerSound.nil : trackerSound [] := ⟨by simp, by simp, by simp⟩

theorem forgetRow_keeps (s : State) (r : PhysRow) : Keeps s (s.forgetRow r) :=
  .of_tracker _ fun h => trackerSound.sublist h List.filter_sublist

/-! ### The front link (R36, R42, R43, R46) -/

namespace FrontLink

variable {f : FrontLink}

/-- Where a front link holds anything or owes a credit for it, credits have started. -/
theorem Sound.started (h : f.Sound) (held : f.tracker ≠ [] ∨ f.queue ≠ []) : f.creditsStarted = true := by
  obtain ⟨-, -, empty, -⟩ := h
  by_contra unstarted
  obtain ⟨noReads, noEntries⟩ := empty (by simpa using unstarted)
  exact held.elim (· noReads) (· noEntries)

/-- A balance above 0 is one of an OPEN front link with credits started. -/
theorem Sound.open_of_balance (h : f.Sound) (some_credit : f.readBalance ≠ 0 ∨ f.writeBalance ≠ 0) :
    f.admission = .opened ∧ f.creditsStarted = true := by
  obtain ⟨-, none_held, -⟩ := h
  cases ha : f.admission with
  | closed => have := none_held (.inl ha); omega
  | opened =>
    cases hc : f.creditsStarted with
    | false => have := none_held (.inr hc); omega
    | true => exact ⟨rfl, rfl⟩

/-- Reads leave the tracker, one credit owed for each while admission is OPEN. -/
theorem Sound.answered (h : f.Sound) {t : List TrackedRead} {n : Nat} (sub : t.Sublist f.tracker)
    (count : t.length + n = f.tracker.length) :
    Sound { f with tracker := t, readOwed := f.readOwed + if f.admission = .opened then n else 0 } := by
  obtain ⟨sums, none_held, empty, reads, entries, tags⟩ := h
  refine ⟨fun ha hc => ?_, fun out => ?_, fun hc => ?_, ?_, entries, ?_⟩
  · have := sums ha hc
    simp only [show f.admission = .opened from ha, if_true]
    omega
  · have := none_held out
    rcases out with closed | unstarted
    · simp only [show f.admission = .closed from closed, reduceCtorEq, if_false]
      omega
    · have none_left := (empty unstarted).1
      rw [none_left] at count
      have : n = 0 := by simpa using (by simpa using count : t = [] ∧ n = 0).2
      simp only [this, ite_self]
      omega
  · obtain ⟨noReads, noEntries⟩ := empty hc
    exact ⟨List.sublist_nil.1 (noReads ▸ sub), noEntries⟩
  · exact sub.length_le.trans reads
  · exact tags.sublist ((sub.map _).append (List.Sublist.refl _))

/-- The write queue takes other contents in its places. -/
theorem Sound.requeued (h : f.Sound) {q : List QueueEntry} (count : q.length = f.queue.length)
    (sub : (q.filterMap QueueEntry.tag).Sublist (f.queue.filterMap QueueEntry.tag)) : Sound { f with queue := q } := by
  obtain ⟨sums, none_held, empty, reads, entries, tags⟩ := h
  refine ⟨by simpa only [count] using sums, none_held, fun hc => ?_, reads, by simpa only [count] using entries,
    tags.sublist ((List.Sublist.refl _).append sub)⟩
  obtain ⟨noReads, noEntries⟩ := empty hc
  exact ⟨noReads, List.length_eq_zero_iff.1 (by simp only [count, noEntries, List.length_nil])⟩

/-- An entry leaves the write queue, its credit owed while admission is OPEN. -/
theorem Sound.dequeued (h : f.Sound) {q : List QueueEntry} (sub : q.Sublist f.queue)
    (count : q.length + 1 = f.queue.length) :
    Sound { f with queue := q, writeOwed := f.writeOwed + if f.admission = .opened then 1 else 0 } := by
  have started : f.creditsStarted = true := h.started (.inr (by rintro none_left; simp [none_left] at count))
  obtain ⟨sums, none_held, empty, reads, entries, tags⟩ := h
  refine ⟨fun ha hc => ?_, fun out => ?_, fun hc => ?_, reads, sub.length_le.trans entries,
    tags.sublist ((List.Sublist.refl _).append (sub.filterMap _))⟩
  · have := sums ha hc
    simp only [show f.admission = .opened from ha, if_true]
    omega
  · have := none_held out
    rcases out with closed | unstarted
    · simp only [show f.admission = .closed from closed, reduceCtorEq, if_false]
      omega
    · exact absurd started (by simp [show f.creditsStarted = false from unstarted])
  · exact absurd started (by simp [show f.creditsStarted = false from hc])

/-- A READ is entered in the tracker with a credit. -/
theorem Sound.tracked (h : f.Sound) (credit : f.readBalance ≠ 0) {r : TrackedRead} (free : r.tag ∉ f.tagsHeld) :
    Sound { f with readBalance := f.readBalance - 1, tracker := f.tracker ++ [r] } := by
  obtain ⟨opened, started⟩ := h.open_of_balance (.inl credit)
  obtain ⟨sums, -, -, reads, entries, tags⟩ := h
  have := sums opened started
  refine ⟨fun _ _ => ?_, fun out => ?_, fun hc => ?_, ?_, entries, ?_⟩
  · simp only [List.length_append, List.length_singleton]
    omega
  · simp [opened, started] at out
  · simp [started] at hc
  · simp only [List.length_append, List.length_singleton]
    omega
  · simp only [tagsHeld, List.map_append, List.map_cons, List.map_nil, List.append_assoc, List.singleton_append]
    exact (List.perm_middle.nodup_iff).2 (List.nodup_cons.2 ⟨free, tags⟩)

/-- A READ takes a credit that is owed again at once. -/
theorem Sound.forwarded (h : f.Sound) (credit : f.readBalance ≠ 0) :
    Sound { f with readBalance := f.readBalance - 1,
                   readOwed := f.readOwed + if f.admission = .opened then 1 else 0 } := by
  obtain ⟨opened, started⟩ := h.open_of_balance (.inl credit)
  obtain ⟨sums, -, -, reads, entries, tags⟩ := h
  have := sums opened started
  refine ⟨fun _ _ => ?_, fun out => ?_, fun hc => ?_, reads, entries, tags⟩
  · simp only [opened, if_true]
    omega
  · simp [opened, started] at out
  · simp [started] at hc

/-- A write takes a credit that is owed again at once, its bytes in the place of an entry. -/
theorem Sound.coalesced (h : f.Sound) (credit : f.writeBalance ≠ 0) {q : List QueueEntry}
    (count : q.length = f.queue.length)
    (sub : (q.filterMap QueueEntry.tag).Sublist (f.queue.filterMap QueueEntry.tag)) :
    Sound { f with writeBalance := f.writeBalance - 1, queue := q,
                   writeOwed := f.writeOwed + if f.admission = .opened then 1 else 0 } := by
  obtain ⟨opened, started⟩ := h.open_of_balance (.inr credit)
  obtain ⟨sums, -, -, reads, entries, tags⟩ := h.requeued count sub
  have := sums opened started
  refine ⟨fun _ _ => ?_, fun out => ?_, fun hc => ?_, reads, entries, tags⟩
  · simp only [opened, if_true] at this ⊢
    omega
  · simp [opened, started] at out
  · simp [started] at hc

/-- A write takes a credit and a place at the tail of the write queue. -/
theorem Sound.enqueued (h : f.Sound) (credit : f.writeBalance ≠ 0) {e : QueueEntry}
    (free : ∀ t, e.tag = some t → t ∉ f.tagsHeld) :
    Sound { f with writeBalance := f.writeBalance - 1, queue := f.queue ++ [e] } := by
  obtain ⟨opened, started⟩ := h.open_of_balance (.inr credit)
  obtain ⟨sums, -, -, reads, entries, tags⟩ := h
  have := sums opened started
  refine ⟨fun _ _ => ?_, fun out => ?_, fun hc => ?_, reads, ?_, ?_⟩
  · simp only [List.length_append, List.length_singleton]
    omega
  · simp [opened, started] at out
  · simp [started] at hc
  · simp only [List.length_append, List.length_singleton]
    omega
  · simp only [tagsHeld, List.filterMap_append]
    rw [← List.append_assoc, List.nodup_append]
    refine ⟨tags, ?_, fun a ha b hb => ?_⟩
    · cases ht : e.tag <;> simp [ht]
    · rintro rfl
      cases ht : e.tag with
      | none => simp [ht] at hb
      | some t =>
        obtain rfl : a = t := by simpa [ht] using hb
        exact free a ht ha

/-- The CREDIT folds what is owed into the balances. -/
theorem Sound.credited (h : f.Sound) :
    Sound { f with readBalance := f.readBalance + f.readOwed, writeBalance := f.writeBalance + f.writeOwed,
                   readOwed := 0, writeOwed := 0 } := by
  obtain ⟨sums, none_held, empty, reads, entries, tags⟩ := h
  refine ⟨fun ha hc => ?_, fun out => ?_, empty, reads, entries, tags⟩
  · have := sums ha hc
    simp only
    omega
  · obtain ⟨r, ro, w, wo⟩ := none_held out
    exact ⟨by simp [r, ro], rfl, by simp [w, wo], rfl⟩

section
variable (h : f.Sound)
include h

/-- Credits start on an empty front link, with the initial CREDIT while admission is OPEN (R38). -/
theorem Sound.started_opened (opened : f.admission = .opened) (unstarted : f.creditsStarted = false) :
    Sound { f with creditsStarted := true, readBalance := 32, writeBalance := 24 } := by
  obtain ⟨-, none_held, empty, reads, entries, tags⟩ := h
  obtain ⟨noReads, noEntries⟩ := empty unstarted
  have := none_held (.inr unstarted)
  refine ⟨fun _ _ => ?_, fun out => ?_, fun hc => ?_, reads, entries, tags⟩
  · simp only [noReads, noEntries, List.length_nil]
    omega
  · simp [opened] at out
  · simp at hc

/-- Credits start without a message while admission is CLOSED (R38). -/
theorem Sound.started_closed (closed : f.admission = .closed) (unstarted : f.creditsStarted = false) :
    Sound { f with creditsStarted := true } := by
  obtain ⟨-, none_held, empty, reads, entries, tags⟩ := h
  have := none_held (.inr unstarted)
  refine ⟨fun ha _ => ?_, fun _ => this, fun hc => ?_, reads, entries, tags⟩
  · simp [closed] at ha
  · simp at hc

end

theorem empty_eq (f : FrontLink) : f.empty = true ↔ f.tracker = [] ∧ f.queue = [] := by
  simp [FrontLink.empty]

section
variable (h : f.Sound) (closed : f.admission = .closed)
include h closed

/-- Admission opens on an empty front link with the initial CREDIT, once credits have started (R35). -/
theorem Sound.reopened_started (started : f.creditsStarted = true) (empty : f.empty = true) :
    Sound { f with admission := .opened, readBalance := 32, writeBalance := 24 } := by
  obtain ⟨-, none_held, unstarted_empty, reads, entries, tags⟩ := h
  obtain ⟨noReads, noEntries⟩ := f.empty_eq.1 empty
  have := none_held (.inl closed)
  refine ⟨fun _ _ => ?_, fun out => ?_, unstarted_empty, reads, entries, tags⟩
  · simp only [noReads, noEntries, List.length_nil]
    omega
  · simp [started] at out

/-- Admission opens without a message before credits start (R35). -/
theorem Sound.reopened_unstarted (unstarted : f.creditsStarted = false) : Sound { f with admission := .opened } := by
  obtain ⟨-, none_held, unstarted_empty, reads, entries, tags⟩ := h
  have := none_held (.inl closed)
  refine ⟨fun _ hc => ?_, fun _ => this, unstarted_empty, reads, entries, tags⟩
  simp [unstarted] at hc

end

/-- Admission closes and every credit is discarded (R34). -/
theorem Sound.shut (h : f.Sound) :
    Sound { f with admission := .closed, readBalance := 0, writeBalance := 0, readOwed := 0, writeOwed := 0 } := by
  obtain ⟨-, -, empty, reads, entries, tags⟩ := h
  exact ⟨fun ha _ => by simp at ha, fun _ => ⟨rfl, rfl, rfl, rfl⟩, empty, reads, entries, tags⟩

theorem Sound.reset : FrontLink.reset.Sound :=
  ⟨fun _ hc => by simp [FrontLink.reset] at hc, fun _ => ⟨rfl, rfl, rfl, rfl⟩, fun _ => ⟨rfl, rfl⟩,
    by simp [FrontLink.reset], by simp [FrontLink.reset], by simp [FrontLink.reset, tagsHeld]⟩

end FrontLink

end Sys2Proof.Machine
end

section
/-! PROOFS. What every step keeps, at the rank schedulers (R67, R136, R142, R146, R147), on the front link (chapter 3) and
of the job in progress under a held entry (R107). -/

namespace Sys2Proof.Machine

/-! ### One element of a fixed-length collection -/

theorem getElem_set {α : Type} {n : Nat} (v : Vector α n) (i j : Fin n) (x : α) :
    (v.set i x)[j] = if j = i then x else v[j] := by
  by_cases same : j = i
  · subst same
    simp
  · have apart : i.val ≠ j.val := fun e => same (Fin.ext e.symm)
    simp [same, Vector.getElem_set_ne _ _ apart]

theorem getElem_mapV {α β : Type} {n : Nat} (f : α → β) (v : Vector α n) (i : Fin n) : (mapV f v)[i] = f v[i] :=
  mapV_getElem f v i.val i.isLt

theorem sum_map_ranks (v : Vector RankSched 4) (f : RankSched → Nat) :
    (v.toList.map f).sum = ∑ k : RankNo, f v[k] := by
  obtain ⟨⟨l⟩, hl⟩ := v
  match l, hl with
  | [a, b, c, d], _ => simp [Fin.sum_univ_four, add_assoc]

/-! ### The rank schedulers -/

/-- The schedulers' invariant as one of the four ranks. -/
def ranksSound (v : Vector RankSched 4) : Prop :=
  (∀ k : RankNo, (v[k]).Sound k) ∧ (v.toList.map RankSched.scrubs).sum ≤ 1

/-- No rank has a scrub write placed and not yet granted. -/
def noScrubs (v : Vector RankSched 4) : Prop := ∀ k : RankNo, (v[k]).scrubs = 0

/-- A scheduler as good as another: sound where that one is, with no more scrub writes. -/
def RankSched.NoWorse (k : RankNo) (r r' : RankSched) : Prop := r.Sound k → r'.Sound k ∧ r'.scrubs ≤ r.scrubs

/-- What the bounds of a scheduler depend on in an operation. -/
def LineOp.gist (o : LineOp) : OpKind × Loc := (o.kind, o.loc)

theorem length_filter_kind (test : OpKind → Bool) (l : List LineOp) :
    (l.filter fun o => test o.kind).length = (l.map LineOp.gist).countP fun x => test x.1 := by
  rw [List.countP_map, List.countP_eq_length_filter]
  rfl

theorem RankSched.repairs_eq (r : RankSched) : r.repairs = (r.placed.map LineOp.gist).countP fun x => x.1.isRepair :=
  length_filter_kind _ _

theorem RankSched.scrubs_eq (r : RankSched) : r.scrubs = (r.placed.map LineOp.gist).countP fun x => x.1.isScrub :=
  length_filter_kind _ _

/-- A scheduler that holds no other operations than before, within the bounds of its counts. -/
theorem RankSched.noWorse_of_gist {k : RankNo} {r r' : RankSched}
    (counts : r.Sound k → r'.debt ≤ 8 ∧ r'.moveWait ≤ 16)
    (placed : (r'.placed.map LineOp.gist).Sublist (r.placed.map LineOp.gist))
    (banks : r.Sound k → ∀ b : BankNo, ∀ o ∈ r'.banks[b], o.loc.rank = k ∧ o.loc.bank = b) : r.NoWorse k r' := by
  intro sound
  obtain ⟨-, -, repairs, ranks, -⟩ := id sound
  refine ⟨⟨(counts sound).1, (counts sound).2, ?_, fun o ho => ?_, banks sound⟩, ?_⟩
  · rw [r'.repairs_eq]
    exact (placed.countP_le).trans (r.repairs_eq ▸ repairs)
  · obtain ⟨x, hx, same⟩ := List.mem_map.1 (placed.subset (List.mem_map_of_mem ho))
    have : x.loc = o.loc := (Prod.mk.inj same).2
    exact this ▸ ranks x hx
  · rw [r'.scrubs_eq, r.scrubs_eq]
    exact placed.countP_le

theorem RankSched.noWorse_of_counts {k : RankNo} {r r' : RankSched}
    (counts : r.Sound k → r'.debt ≤ 8 ∧ r'.moveWait ≤ 16) (placed : r'.placed = r.placed) (banks : r'.banks = r.banks) :
    r.NoWorse k r' :=
  noWorse_of_gist counts (placed ▸ List.Sublist.refl _) fun sound => banks ▸ sound.2.2.2.2

theorem ranksSound.set {v : Vector RankSched 4} {k : RankNo} {r : RankSched} (h : ranksSound v)
    (better : (v[k]).NoWorse k r) : ranksSound (v.set k r) := by
  obtain ⟨sound, scrubs⟩ := h
  obtain ⟨here, fewer⟩ := better (sound k)
  refine ⟨fun n => ?_, ?_⟩
  · rw [getElem_set]
    split
    next e => exact e ▸ here
    next => exact sound n
  · rw [sum_map_ranks] at scrubs ⊢
    refine le_trans (Finset.sum_le_sum fun n _ => ?_) scrubs
    rw [getElem_set]
    split
    next e => exact e ▸ fewer
    next => exact le_rfl

theorem ranksSound.map {v : Vector RankSched 4} {f : RankSched → RankSched} (h : ranksSound v)
    (better : ∀ (k : RankNo) (r : RankSched), r.NoWorse k (f r)) : ranksSound (mapV f v) := by
  obtain ⟨sound, scrubs⟩ := h
  refine ⟨fun k => ?_, ?_⟩
  · rw [getElem_mapV]
    exact (better k _ (sound k)).1
  · rw [sum_map_ranks] at scrubs ⊢
    refine le_trans (Finset.sum_le_sum fun k _ => ?_) scrubs
    rw [getElem_mapV]
    exact (better k _ (sound k)).2

theorem onRank_keeps (s : State) (k : RankNo) (f : RankSched → RankSched) (better : (s.ranks[k]).NoWorse k (f s.ranks[k])) :
    Keeps s (s.onRank k f) :=
  .of_ranks _ fun h => ranksSound.set h better

theorem onRanks_keeps (s : State) (f : RankSched → RankSched) (better : ∀ (k : RankNo) (r : RankSched), r.NoWorse k (f r)) :
    Keeps s (s.onRanks f) :=
  .of_ranks _ fun h => ranksSound.map h better

/-! ### Operations placed (R67, R136, R143) -/

theorem RankSched.scrubs_placed (r : RankSched) (o : LineOp) :
    RankSched.scrubs { r with placed := r.placed ++ [o] } = r.scrubs + if o.kind.isScrub then 1 else 0 := by
  cases h : o.kind.isScrub <;> simp [RankSched.scrubs, h]

theorem RankSched.repairs_placed (r : RankSched) (o : LineOp) :
    RankSched.repairs { r with placed := r.placed ++ [o] } = r.repairs + if o.kind.isRepair then 1 else 0 := by
  cases h : o.kind.isRepair <;> simp [RankSched.repairs, h]

theorem RankSched.Sound.placed {k : RankNo} {r : RankSched} (h : r.Sound k) {o : LineOp} (rank : o.loc.rank = k)
    (room : o.kind.isRepair = true → r.repairs < 15) : RankSched.Sound k { r with placed := r.placed ++ [o] } := by
  obtain ⟨debt, wait, repairs, ranks, banks⟩ := h
  refine ⟨debt, wait, ?_, fun x hx => ?_, banks⟩
  · rw [r.repairs_placed]
    split
    next repair => exact room repair
    next => exact repairs
  · rcases List.mem_append.1 hx with old | new
    · exact ranks x old
    · obtain rfl : x = o := by simpa using new
      exact rank

theorem ranksSound.place {v : Vector RankSched 4} (h : ranksSound v) {o : LineOp}
    (room : o.kind.isRepair = true → (v[o.loc.rank]).repairs < 15) (alone : o.kind.isScrub = true → noScrubs v) :
    ranksSound (v.set o.loc.rank { v[o.loc.rank] with placed := (v[o.loc.rank]).placed ++ [o] }) := by
  obtain ⟨sound, scrubs⟩ := h
  refine ⟨fun n => ?_, ?_⟩
  · rw [getElem_set]
    split
    next e => exact e ▸ (sound o.loc.rank).placed rfl room
    next => exact sound n
  · rw [sum_map_ranks] at scrubs ⊢
    cases scrub : o.kind.isScrub with
    | false =>
      refine le_trans (Finset.sum_le_sum fun n _ => ?_) scrubs
      rw [getElem_set]
      split
      next e => simp [e, RankSched.scrubs_placed, scrub]
      next => exact le_rfl
    | true =>
      have each : ∀ n : RankNo,
          (((v.set o.loc.rank { v[o.loc.rank] with placed := (v[o.loc.rank]).placed ++ [o] })[n]).scrubs
            = if n = o.loc.rank then 1 else 0) := by
        intro n
        rw [getElem_set]
        split
        next => rw [RankSched.scrubs_placed, scrub, if_pos rfl, alone scrub]
        next => exact alone scrub n
      rw [Finset.sum_congr rfl fun n _ => each n]
      simp

theorem place_keeps (s : State) (o : LineOp) (plain : o.kind.restorative = false) : Keeps s (s.place o) := by
  obtain ⟨repair, scrub⟩ : o.kind.isRepair = false ∧ o.kind.isScrub = false := by
    simpa [OpKind.restorative] using plain
  exact .of_ranks _ fun h => ranksSound.place h (by simp [repair]) (by simp [scrub])

theorem formRepair_keeps (s : State) (la : LineAddr) (i : RegionIx) (side : Side) (data : LineData) (mark patrol : Bool) :
    Keeps s (s.formRepair la i side data mark patrol).1 := by
  rw [State.formRepair_eq]
  split
  next room => exact .of_ranks _ fun h => ranksSound.place h (fun _ => room) (by simp [OpKind.isScrub])
  next => exact .of_ranks_eq rfl id

theorem noScrubs_of_scrubPlaced {s : State} (h : s.scrubPlaced = false) : noScrubs s.ranks := by
  intro k
  have here : ∀ o ∈ (s.ranks[k]).placed, o.kind.isScrub = false := by
    simp only [State.scrubPlaced, List.any_eq_false, Bool.not_eq_true] at h
    exact h s.ranks[k] (by simp)
  rw [RankSched.scrubs, List.length_eq_zero_iff, List.filter_eq_nil_iff]
  simpa using here

/-! ### Operations in progress and notices (R68, R142) -/

/-- A scheduler under a notice holds the same operations, marked or not. -/
theorem RankSched.noticed_noWorse (la : LineAddr) (there : Loc → Bool) (k : RankNo) (r : RankSched) :
    r.NoWorse k (r.noticed la there) := by
  have same : (r.noticed la there).placed.map LineOp.gist = r.placed.map LineOp.gist := by
    simp only [RankSched.noticed, List.map_map]
    refine List.map_congr_left fun o _ => ?_
    simp only [Function.comp_apply, LineOp.noticed]
    split <;> rfl
  refine noWorse_of_gist (fun sound => ⟨sound.1, sound.2.1⟩) (same ▸ List.Sublist.refl _) fun sound b o ho => ?_
  · simp only [RankSched.noticed, getElem_mapV, Option.mem_def, Option.map_eq_some_iff] at ho
    obtain ⟨x, hx, rfl⟩ := ho
    have here := sound.2.2.2.2 b x hx
    simp only [LineOp.noticedBusy]
    split <;> exact here

theorem notice_keeps (s : State) (la : LineAddr) (there : Loc → Bool) : Keeps s (s.notice la there) :=
  (onRanks_keeps s _ fun k r => r.noticed_noWorse la there k).trans (.aside (s.onRanks (RankSched.noticed la there)) ..)

theorem freeBank_keeps (s : State) (k : RankNo) (b : BankNo) : Keeps s (s.freeBank k b) := by
  refine onRank_keeps s k _ (RankSched.noWorse_of_gist (fun sound => ⟨sound.1, sound.2.1⟩) (List.Sublist.refl _)
    fun sound n o ho => ?_)
  simp only [getElem_set] at ho
  split at ho
  · cases ho
  · exact sound.2.2.2.2 n o ho

theorem placeEntryWrite_keeps (la : LineAddr) (f : LineForm) (s : State) (l : Loc) :
    Keeps s (State.placeEntryWrite la f s l) :=
  (notice_keeps s la _).trans (place_keeps _ _ rfl)

theorem foldl_keeps {α : Type} (f : State → α → State) (each : ∀ s a, Keeps s (f s a)) (l : List α) (s : State) :
    Keeps s (l.foldl f s) := by
  induction l generalizing s with
  | nil => exact .refl s
  | cons a l ih => exact (each s a).trans (ih (f s a))

/-! ### Grants (R69, R145, R146, R147) -/

theorem RankSched.waitMore_le {r : RankSched} (h : r.moveWait ≤ 16) : r.waitMore ≤ 16 := by
  simp only [RankSched.waitMore]
  split
  · exact Nat.min_le_left _ _
  · exact h

theorem RankSched.takeWide_noWorse (k : RankNo) (r : RankSched) (w : WideOp) : r.NoWorse k (r.takeWide w) := by
  refine noWorse_of_counts (fun sound => ?_) (by cases w <;> rfl) (by cases w <;> rfl)
  obtain ⟨debt, wait, -⟩ := sound
  cases w with
  | refresh => exact ⟨(Nat.sub_le _ _).trans debt, r.waitMore_le wait⟩
  | entry => exact ⟨Nat.zero_le _, wait⟩
  | exit => exact ⟨debt, wait⟩
  | init => exact ⟨debt, wait⟩

theorem RankSched.takeLine_noWorse {k : RankNo} {r : RankSched} {i : Nat} {o : LineOp} (there : r.placed[i]? = some o) :
    r.NoWorse k (r.takeLine i o) := by
  refine noWorse_of_gist (fun sound => ⟨sound.1, ?_⟩) ((List.eraseIdx_sublist _ _).map _) fun sound b x hx => ?_
  · simp only [RankSched.takeLine]
    split
    · exact Nat.zero_le _
    · exact r.waitMore_le sound.2.1
  · simp only [RankSched.takeLine, getElem_set] at hx
    split at hx
    next here =>
      obtain rfl : o = x := by simpa using hx
      exact ⟨sound.2.2.2.1 o (List.mem_of_getElem? there), here.symm⟩
    next => exact sound.2.2.2.2 b x hx

theorem RankSched.erase_noWorse (k : RankNo) (r : RankSched) (i : Nat) :
    r.NoWorse k { r with placed := r.placed.eraseIdx i } :=
  noWorse_of_gist (fun sound => ⟨sound.1, sound.2.1⟩) ((List.eraseIdx_sublist _ _).map _) fun sound => sound.2.2.2.2

/-- The only scrub write that the buffer has waiting leaves none behind. -/
theorem noScrubs_of_erase {v : Vector RankSched 4} (h : ranksSound v) {k : RankNo} {i : Nat} {o : LineOp} {r : RankSched}
    (there : (v[k]).placed[i]? = some o) (scrub : o.kind.isScrub = true)
    (placed : r.placed = (v[k]).placed.eraseIdx i) : noScrubs (v.set k r) := by
  have split : (v[k]).placed = (v[k]).placed.take i ++ o :: (v[k]).placed.drop (i + 1) := by
    obtain ⟨hi, rfl⟩ := List.getElem?_eq_some_iff.1 there
    rw [← List.drop_eq_getElem_cons hi, List.take_append_drop]
  have fewer : r.scrubs + 1 = (v[k]).scrubs := by
    simp only [RankSched.scrubs]
    rw [split, placed, List.eraseIdx_eq_take_drop_succ]
    simp [List.filter_append, scrub]
    omega
  have total := h.2
  rw [sum_map_ranks, ← Finset.add_sum_erase _ _ (Finset.mem_univ k)] at total
  intro n
  rw [getElem_set]
  split
  next => omega
  next apart =>
    have := Finset.single_le_sum (f := fun n : RankNo => (v[n]).scrubs) (fun _ _ => Nat.zero_le _)
      (Finset.mem_erase.2 ⟨apart, Finset.mem_univ n⟩)
    omega

/-- The ranks after a waiting scrub write has been placed where none was. -/
theorem placeWaitingScrub_ranks {s : State} (h : ranksSound s.ranks) (alone : noScrubs s.ranks) :
    ranksSound s.placeWaitingScrub.ranks := by
  simp only [State.placeWaitingScrub]
  split
  · exact h
  · split
    · exact h
    · exact ranksSound.place h (by simp [OpKind.isRepair]) fun _ => alone

theorem grantLine_ranks {s : State} (h : ranksSound s.ranks) {k : RankNo} {i : Nat} {o : LineOp}
    (there : (s.ranks[k]).placed[i]? = some o) : ranksSound (s.grantLine k i o).ranks := by
  have taken : ranksSound (s.ranks.set k (s.ranks[k].takeLine i o)) := h.set (RankSched.takeLine_noWorse there)
  simp only [State.grantLine]
  split
  next scrub => exact placeWaitingScrub_ranks taken (noScrubs_of_erase h there scrub rfl)
  next => exact taken

theorem discardAt_ranks {s : State} (h : ranksSound s.ranks) {k : RankNo} {i : Nat} {o : LineOp}
    (there : (s.ranks[k]).placed[i]? = some o) : ranksSound (s.discardAt k i o).ranks := by
  have freed : ranksSound (s.ranks.set k { s.ranks[k] with placed := (s.ranks[k]).placed.eraseIdx i }) :=
    h.set (RankSched.erase_noWorse k _ i)
  simp only [State.discardAt]
  split
  next patrol _ _ => split <;> exact freed
  next kind => exact placeWaitingScrub_ranks freed (noScrubs_of_erase h there (by simp [kind, OpKind.isScrub]) rfl)
  next => exact freed

theorem grantOn_ranks (n : Nat) (s : State) (k : RankNo) (c : SlotChoice) (h : ranksSound s.ranks) :
    ranksSound (State.grantOn n s k c).ranks := by
  induction n generalizing s c with
  | zero => exact h
  | succ n ih =>
    simp only [State.grantOn]
    split
    next => exact h
    next w _ => exact h.set (RankSched.takeWide_noWorse k _ w)
    next i o decided =>
      have there := (RankSched.decideGrant_line _ _ _ _ _ decided).1
      split
      · exact ih _ _ (discardAt_ranks h there)
      · exact grantLine_ranks h there

theorem grantOn_keeps (n : Nat) (s : State) (k : RankNo) (c : SlotChoice) : Keeps s (State.grantOn n s k c) := by
  refine .of_ranks_eq ?_ (grantOn_ranks n s k c)
  conv_lhs => rw [State.grantOn_eq]
  rw [State.grantOn_eq]

/-! ### Refresh and rank-wide operations (R142, R147, R148, R150, R151) -/

/-- A rank-wide operation and a rank's state are no part of the schedulers' bounds. -/
theorem RankSched.placeWide_noWorse (k : RankNo) (r : RankSched) (w : WideOp) : r.NoWorse k (r.placeWide w) :=
  noWorse_of_counts (fun sound => ⟨sound.1, sound.2.1⟩) rfl rfl

theorem refreshExpiry_keeps (s : State) (k : RankNo) : Keeps s (s.refreshExpiry k) :=
  .ite (fun _ => .ite
      (fun low => onRank_keeps s k _ (RankSched.noWorse_of_counts (fun sound => ⟨low, sound.2.1⟩) rfl rfl))
      fun _ => (onCounters_keeps s _).trans (offer_keeps _ _))
    fun _ => .refl s

theorem refreshDone_keeps (s : State) (k : RankNo) : Keeps s (s.refreshDone k) :=
  .ite (fun _ => onRank_keeps s k _ (RankSched.noWorse_of_counts (fun sound => ⟨sound.1, sound.2.1⟩) rfl rfl))
    fun _ => .refl s

/-! ### Entries of the write queue (R46, R47, R52) -/

theorem State.oldestEntry_some (s : State) {la : LineAddr} {e : QueueEntry} (h : s.oldestEntry la = some e) :
    ∃ older newer, oldestFor s.front.queue older newer la e := by
  obtain ⟨he, older, newer, hq, ho⟩ := List.find?_eq_some_iff_append.1 h
  exact ⟨older, newer, hq, by simpa using he, fun x hx => by simpa using ho x hx⟩

/-- One entry of the queue takes another state, of the same tag or of none. -/
theorem queue_restated {older newer : List QueueEntry} {e : QueueEntry} {st : EntryState}
    (tag : QueueEntry.tag { e with state := st } = none ∨ QueueEntry.tag { e with state := st } = e.tag) :
    (older ++ { e with state := st } :: newer).length = (older ++ e :: newer).length
      ∧ ((older ++ { e with state := st } :: newer).filterMap QueueEntry.tag).Sublist
          ((older ++ e :: newer).filterMap QueueEntry.tag) := by
  refine ⟨by simp, ?_⟩
  simp only [List.filterMap_append, List.filterMap_cons]
  refine (List.Sublist.refl _).append ?_
  rcases tag with none | same
  · rw [none]
    cases e.tag with
    | none => exact List.Sublist.refl _
    | some t => exact List.sublist_cons_self _ _
  · rw [same]

theorem setQueue_keeps {s : State} {q : List QueueEntry} (count : q.length = s.front.queue.length)
    (sub : (q.filterMap QueueEntry.tag).Sublist (s.front.queue.filterMap QueueEntry.tag)) : Keeps s (s.setQueue q) :=
  .of_front _ fun h => h.requeued count sub

theorem setOldest_keeps {s : State} {la : LineAddr} {e : QueueEntry} (found : s.oldestEntry la = some e)
    {st : EntryState}
    (tag : QueueEntry.tag { e with state := st } = none ∨ QueueEntry.tag { e with state := st } = e.tag) :
    Keeps s (s.setOldest la st) := by
  obtain ⟨older, newer, here⟩ := s.oldestEntry_some found
  rw [s.setOldest_of here]
  obtain ⟨count, sub⟩ := queue_restated (older := older) (newer := newer) tag
  exact setQueue_keeps (here.1 ▸ count) (here.1 ▸ sub)

theorem dropOldest_keeps {s : State} {la : LineAddr} {e : QueueEntry} (found : s.oldestEntry la = some e) :
    Keeps s (s.dropOldest la) := by
  obtain ⟨older, newer, here⟩ := s.oldestEntry_some found
  rw [s.dropOldest_of here, State.oweWrite_eq]
  refine .of_front _ fun h => h.dequeued ?_ ?_
  · rw [here.1]
    exact (List.Sublist.refl _).append (List.sublist_cons_self _ _)
  · simp [here.1]
    omega

theorem entryWriteDone_keeps (s : State) (la : LineAddr) : Keeps s (s.entryWriteDone la) := by
  simp only [State.entryWriteDone]
  split
  next found => exact .ite (fun _ => dropOldest_keeps found) fun _ => setOldest_keeps found (.inl rfl)
  next => exact .refl s

/-! ### The job in progress and the tables (R77, R99, R100) -/

/-- The reference of the job in progress, where there is one that is not closed. -/
def Engine.inProgress (e : Engine) : Option JobRef := e.job.bind fun j => if j.closed then none else some j.ref

theorem State.jobFor_isSome (s : State) (ref : JobRef) :
    (s.jobFor ref).isSome = true ↔ s.engine.inProgress = some ref := by
  simp only [State.jobFor, Engine.inProgress]
  cases s.engine.job with
  | none => simp
  | some j => cases closed : j.closed <;> simp [closed, apply_ite Option.isSome]

/-- A job found is the one in progress, and is not closed. -/
theorem State.jobFor_eq_some (s : State) {ref : JobRef} {j : Job} :
    s.jobFor ref = some j ↔ s.engine.job = some j ∧ j.ref = ref ∧ j.closed = false := by
  simp only [State.jobFor]
  cases s.engine.job with
  | none => simp
  | some k =>
    simp only [Option.ite_none_right_eq_some, Option.some.injEq]
    constructor
    · rintro ⟨h, rfl⟩
      exact ⟨rfl, h⟩
    · rintro ⟨rfl, h⟩
      exact ⟨h, rfl⟩

/-- The agreement of the job queue and the job in progress with the slots and the mirrors, by what each says of a
reference. -/
structure JobTables (queue : List JobRef) (now : Option JobRef) (pending copying : SlotIx → Bool)
    (rebuilding : RegionIx → Bool) : Prop where
  nodup : queue.Nodup
  moves : ∀ i, .rowMove i ∈ queue ↔ pending i = true
  move : ∀ i, now = some (.rowMove i) ↔ copying i = true
  resyncs : ∀ i, .resync i ∈ queue ∨ now = some (.resync i) ↔ rebuilding i = true
  resync : ∀ i, now = some (.resync i) → .resync i ∉ queue

theorem State.jobsSound_iff (s : State) :
    s.JobsSound ↔
      JobTables s.engine.queue s.engine.inProgress s.slotPending s.slotCopying s.regionRebuilding
        ∧ (s.engine.mode = .idle ↔ s.engine.job = none) ∧ s.engine.closedWaits := by
  have moving (i : SlotIx) : ((s.jobFor (.rowMove i)).isSome = s.slotCopying i) ↔
      (s.engine.inProgress = some (.rowMove i) ↔ s.slotCopying i = true) := by
    rw [← s.jobFor_isSome, Bool.eq_iff_iff]
  simp only [State.JobsSound, moving, s.jobFor_isSome]
  constructor
  · rintro ⟨nodup, moves, move, resyncs, resync, idle, closed⟩
    exact ⟨⟨nodup, moves, move, resyncs, resync⟩, idle, closed⟩
  · rintro ⟨⟨nodup, moves, move, resyncs, resync⟩, idle, closed⟩
    exact ⟨nodup, moves, move, resyncs, resync, idle, closed⟩

/-- An engine that has the same references and the same rest as before. -/
theorem engine_keeps {s : State} {e : Engine} (queue : e.queue = s.engine.queue) (now : e.inProgress = s.engine.inProgress)
    (idle : (s.engine.mode = .idle ↔ s.engine.job = none) → (e.mode = .idle ↔ e.job = none))
    (closed : s.engine.closedWaits → e.closedWaits) : Keeps s { s with engine := e } := by
  refine .of_engine e fun h => ?_
  rw [State.jobsSound_iff] at h ⊢
  obtain ⟨tables, rest, waits⟩ := h
  exact ⟨by rw [queue, now]; exact tables, idle rest, closed waits⟩

/-- The job in progress with another step and other counts. -/
theorem step_keeps {s : State} {j : Job} (h : s.engine.job = some j) {f : Job → Job} (ref : (f j).ref = j.ref)
    (open' : (f j).closed = j.closed)
    (waits : ∀ st ∈ j.step, st.discarded = true → ∃ st' ∈ (f j).step, st'.discarded = true) :
    Keeps s { s with engine := { s.engine with job := some (f j) } } := by
  refine engine_keeps rfl ?_ (fun idle => ?_) fun closed => ?_
  · simp [Engine.inProgress, h, ref, open']
  · simp [idle, h]
  · rintro k hk closing
    obtain rfl : f j = k := by simpa using hk
    obtain ⟨st, hst, discarded⟩ := closed j h (open' ▸ closing)
    exact waits st hst discarded

theorem holdOnStep_keeps (s : State) (la : LineAddr) : Keeps s (s.holdOnStep la) := by
  cases h : s.engine.job with
  | none =>
    have same : s.holdOnStep la = s := by
      simp only [State.holdOnStep, h, Option.map_none]
      rw [← h]
    rw [same]
    exact .refl s
  | some j =>
    simp only [State.holdOnStep, h, Option.map_some]
    refine step_keeps h (f := fun j => { j with step := j.step.map fun st => { st with held := some la } }) rfl rfl ?_
    intro st hst discarded
    exact ⟨{ st with held := some la }, by simp [Option.mem_def.1 hst], discarded⟩

/-! ### Passing an entry (R51, R58, R61) -/

theorem passEntry_keeps {s : State} {la : LineAddr} {e : QueueEntry} (found : s.oldestEntry la = some e) (f : LineForm) :
    Keeps s (s.passEntry la f) := by
  simp only [State.passEntry]
  split
  · exact dropOldest_keeps found
  · exact (setOldest_keeps found (.inl rfl)).trans (holdOnStep_keeps _ la)
  next locs _ =>
    refine (foldl_keeps _ (placeEntryWrite_keeps la f) locs s).trans (setOldest_keeps (e := e) ?_ (.inl rfl))
    rw [State.placeEntryWrites_eq]
    exact found

theorem releaseHeld_keeps (s : State) (held : Option LineAddr) : Keeps s (s.releaseHeld held) := by
  cases held with
  | none => exact .refl s
  | some la =>
    simp only [State.releaseHeld]
    split
    next found => exact passEntry_keeps found _
    next => exact .refl s

/-! ### Answers (R44, R45, R49, R50) -/

theorem answerRead_keeps (s : State) (tag : Tag) (d : LineData) (o : ReadResult) : Keeps s (s.answerRead tag d o) := by
  refine .ite (fun there => ?_) fun _ => .refl s
  rw [State.oweReads_eq]
  refine .of_front_eq rfl fun h => h.answered (t := s.front.tracker.eraseP fun t => decide (t.tag = tag))
    List.eraseP_sublist ?_
  obtain ⟨x, hx, test⟩ := List.any_eq_true.1 there
  have := List.length_pos_of_mem hx
  rw [List.length_eraseP_of_mem hx test]
  exact Nat.sub_add_cancel this

theorem answerMerge_keeps (s : State) (tag : Tag) (f : LineForm) : Keeps s (s.answerMerge tag f) := by
  simp only [State.answerMerge, State.sends_eq, State.oweReads_eq]
  refine .of_front_eq rfl fun h => h.answered (t := s.front.tracker.filter fun t => !t.heldOn tag)
    (n := (s.front.tracker.filter (TrackedRead.heldOn tag)).length) List.filter_sublist ?_
  rw [← List.countP_eq_length_filter, ← List.countP_eq_length_filter, List.length_eq_countP_add_countP (TrackedRead.heldOn tag)]
  simp [Nat.add_comm]

theorem mergeChain_restated (la : LineAddr) (base : LineForm) (q : List QueueEntry) :
    (mergeChain la base q).1.length = q.length
      ∧ ((mergeChain la base q).1.filterMap QueueEntry.tag).Sublist (q.filterMap QueueEntry.tag) := by
  induction q generalizing base with
  | nil => exact ⟨rfl, List.Sublist.refl _⟩
  | cons e q ih =>
    simp only [mergeChain]
    split
    · split
      next tag enables data _ st =>
        obtain ⟨count, sub⟩ := ih (mergeForm base enables data)
        refine ⟨by simp [count], ?_⟩
        simp only [List.filterMap_cons, QueueEntry.tag, st]
        exact sub.cons _
      next => exact ⟨rfl, List.Sublist.refl _⟩
    · obtain ⟨count, sub⟩ := ih base
      refine ⟨by simp [count], ?_⟩
      simp only [List.filterMap_cons]
      cases e.tag with
      | none => exact sub
      | some t => exact sub.cons_cons t

theorem mergeFrom_restated (tag : Tag) (base : LineForm) (q : List QueueEntry) :
    (mergeFrom tag base q).1.length = q.length
      ∧ ((mergeFrom tag base q).1.filterMap QueueEntry.tag).Sublist (q.filterMap QueueEntry.tag) := by
  induction q with
  | nil => exact ⟨rfl, List.Sublist.refl _⟩
  | cons e q ih =>
    simp only [mergeFrom]
    split
    · exact mergeChain_restated e.la base (e :: q)
    · obtain ⟨count, sub⟩ := ih
      refine ⟨by simp [count], ?_⟩
      simp only [List.filterMap_cons]
      cases e.tag with
      | none => exact sub
      | some t => exact sub.cons_cons t

theorem completeMerge_keeps (s : State) (tag : Tag) (base : LineForm) : Keeps s (s.completeMerge tag base) := by
  obtain ⟨count, sub⟩ := mergeFrom_restated tag base s.front.queue
  exact (setQueue_keeps count sub).trans (foldl_keeps (fun s (x : Tag × LineForm) => s.answerMerge x.1 x.2)
    (fun s x => answerMerge_keeps s x.1 x.2) _ _)

theorem answer_keeps (s : State) (merge : Bool) (tag : Tag) (rd : Reading) : Keeps s (s.answer merge tag rd) :=
  .ite (fun _ => completeMerge_keeps ..) fun _ => answerRead_keeps ..

/-! ### Requests (R36, R39 to R43, R45, R47 to R49) -/

theorem refuseRequest_keeps (s : State) (tag : Tag) (la : LineAddr) (why : FrontReason) :
    Keeps s (s.refuseRequest tag la why) :=
  (send_keeps s _).trans (.ite (fun _ => (onCounters_keeps _ _).trans (offer_keeps _ _)) fun _ => .refl _)

section
variable {s : State} {tag : Tag} {la : LineAddr}

theorem tag_queued {la : LineAddr} (f : LineForm) : QueueEntry.tag { la := la, state := .queued f } = none := rfl

theorem acceptRead_keeps (credit : s.front.readBalance ≠ 0) (free : tag ∉ s.front.tagsHeld) :
    Keeps s (s.acceptRead tag la) := by
  have forward : ∀ m : HostMsg, Keeps s ((s.takeRead.send m).oweReads 1) := fun m => by
    rw [State.oweReads_eq]
    exact .of_front_eq rfl fun h => h.forwarded credit
  have enter : ∀ st : ReadState, Keeps s (s.takeRead.track tag la st) := fun st =>
    .of_front _ fun h => h.tracked credit (r := { tag := tag, la := la, state := st }) free
  simp only [State.acceptRead]
  split
  · exact enter _
  · split
    · exact enter _
    · exact forward _
    · exact forward _
    · exact forward _

theorem coalesce_keeps {m : HostMsg} {f g : LineForm} {older newer : List QueueEntry}
    (credit : s.front.writeBalance ≠ 0) (here : newestFor s.front.queue older newer la { la := la, state := .queued f }) :
    Keeps s ((((s.takeWrite la).send m).setNewest la (.queued g)).oweWrite) := by
  have found : newestFor ((s.takeWrite la).send m).front.queue older newer la { la := la, state := .queued f } := here
  obtain ⟨count, sub⟩ := queue_restated (older := older) (newer := newer) (e := { la := la, state := .queued f })
    (st := .queued g) (.inl rfl)
  rw [State.setNewest_of _ found, State.oweWrite_eq]
  exact (notice_keeps s la fun _ => true).trans
    (.of_front_eq rfl fun h => FrontLink.Sound.coalesced h credit (here.1 ▸ count) (here.1 ▸ sub))

theorem newEntry_keeps {st : EntryState} (credit : s.front.writeBalance ≠ 0)
    (free : ∀ t, QueueEntry.tag { la := la, state := st } = some t → t ∉ s.front.tagsHeld) :
    Keeps s ((s.takeWrite la).enqueue la st) :=
  (notice_keeps s la fun _ => true).trans
    (.of_front _ fun h => h.enqueued credit (e := { la := la, state := st }) free)

theorem newEntry_send_keeps {m : HostMsg} {f : LineForm} (credit : s.front.writeBalance ≠ 0) :
    Keeps s (((s.takeWrite la).send m).enqueue la (.queued f)) :=
  (newEntry_keeps (st := .queued f) credit (by simp [tag_queued])).trans
    (.of_front_eq (s := (s.takeWrite la).enqueue la (.queued f)) rfl id)

theorem acceptWrite_keeps {data : LineData} (credit : s.front.writeBalance ≠ 0) : Keeps s (s.acceptWrite tag la data) := by
  simp only [State.acceptWrite]
  split
  next found =>
    obtain ⟨older, newer, here⟩ := s.newestEntry_some (show s.newestEntry la = _ from found)
    obtain rfl := here.2.1
    exact coalesce_keeps credit here
  next => exact newEntry_send_keeps credit

theorem acceptMasked_keeps {enables : BitVec 64} {data : LineData} (credit : s.front.writeBalance ≠ 0)
    (free : tag ∉ s.front.tagsHeld) : Keeps s (s.acceptMasked tag la enables data) := by
  have fresh : Keeps s ((s.takeWrite la).enqueue la (.merging tag enables data false)) :=
    newEntry_keeps credit fun t ht => by
      obtain rfl : tag = t := by simpa [QueueEntry.tag] using ht
      exact free
  simp only [State.acceptMasked]
  split
  · exact fresh
  next e found =>
    obtain ⟨older, newer, here⟩ := s.newestEntry_some (show s.newestEntry la = _ from found)
    split
    · exact fresh
    next queued =>
      obtain ⟨x, st⟩ := e
      obtain rfl : x = la := here.2.1
      obtain rfl : st = .queued _ := queued
      exact coalesce_keeps credit here
    · exact newEntry_send_keeps credit
    · exact newEntry_send_keeps credit

end

theorem takeReadRequest_keeps (s : State) (tag : Tag) (la : LineAddr) : Keeps s (s.takeReadRequest tag la) := by
  simp only [State.takeReadRequest]
  split
  · exact refuseRequest_keeps ..
  next passed =>
    obtain ⟨-, -, credit, free, -⟩ := (s.check_none_iff ..).1 passed
    exact acceptRead_keeps credit free

theorem takeWriteRequest_keeps (s : State) (tag : Tag) (la : LineAddr) (data : LineData) :
    Keeps s (s.takeWriteRequest tag la data) := by
  simp only [State.takeWriteRequest]
  split
  · exact refuseRequest_keeps ..
  next passed =>
    obtain ⟨-, -, credit, -⟩ := (s.check_none_iff ..).1 passed
    exact acceptWrite_keeps credit

theorem takeMaskedRequest_keeps (s : State) (tag : Tag) (la : LineAddr) (enables : BitVec 64) (data : LineData) :
    Keeps s (s.takeMaskedRequest tag la enables data) := by
  simp only [State.takeMaskedRequest]
  split
  · exact refuseRequest_keeps ..
  next passed =>
    obtain ⟨-, -, credit, free, -⟩ := (s.check_none_iff ..).1 passed
    exact acceptMasked_keeps credit free

/-! ### Issue and credits (R37, R38, R44, R49, R51) -/

theorem setRead_keeps (s : State) (tag : Tag) (st : ReadState) : Keeps s (s.setRead tag st) := by
  have tags (t : List TrackedRead) :
      (replaceFirst (fun t => decide (t.tag = tag)) (fun t => { t with state := st }) t).map (·.tag) = t.map (·.tag) := by
    induction t with
    | nil => rfl
    | cons e t ih =>
      simp only [replaceFirst]
      split
      · rfl
      · simp [ih]
  refine .of_front _ fun h => ?_
  obtain ⟨sums, none_held, empty, reads, entries, distinct⟩ := h
  refine ⟨by simpa only [replaceFirst_length] using sums, none_held, fun hc => ?_,
    by simpa only [replaceFirst_length] using reads, entries, ?_⟩
  · obtain ⟨noReads, noEntries⟩ := empty hc
    simp [noReads, replaceFirst, noEntries]
  · simpa only [FrontLink.tagsHeld, tags] using distinct

theorem issueWaiting_keeps (s : State) (tag : Tag) : Keeps s (s.issueWaiting tag) := by
  simp only [State.issueWaiting]
  split
  · exact (place_keeps s _ rfl).trans (setRead_keeps _ _ _)
  · exact .refl s

theorem issueMergeRead_keeps (s : State) (tag : Tag) : Keeps s (s.issueMergeRead tag) := by
  simp only [State.issueMergeRead]
  split
  · exact .refl s
  next e _ =>
    split
    next la t enables data found =>
      refine .ite (fun same => ?_) fun _ => .refl s
      subst same
      obtain ⟨_, _, -, rfl, -⟩ := s.oldestEntry_some found
      exact (place_keeps s _ rfl).trans (setOldest_keeps (s := s.place _) found (.inr rfl))
    next => exact .refl s

theorem issueEntry_keeps (s : State) (la : LineAddr) : Keeps s (s.issueEntry la) := by
  simp only [State.issueEntry]
  split
  next found => exact .ite (fun _ => passEntry_keeps found _) fun _ => .refl s
  next => exact .refl s

theorem sendCredit_keeps (s : State) : Keeps s s.sendCredit :=
  .ite (fun _ => .of_front_eq rfl fun h => h.credited) fun _ => .refl s

theorem startCredits_keeps (s : State) : Keeps s s.startCredits := by
  cases started : s.front.creditsStarted with
  | true =>
    rw [s.startCredits_started started]
    exact .refl s
  | false =>
    cases admission : s.front.admission with
    | opened =>
      rw [s.startCredits_opened started admission]
      exact .of_front_eq rfl fun h => h.started_opened admission started
    | closed =>
      rw [s.startCredits_closed started admission]
      exact .of_front_eq rfl fun h => h.started_closed admission started

theorem openFront_keeps (s : State) : Keeps s s.openFront := by
  refine .ite (fun _ => respond_keeps ..) fun shut => .ite (fun _ => respond_keeps ..) fun filled => ?_
  have closed : s.front.admission = .closed := by
    cases h : s.front.admission <;> simp_all
  have empty : s.front.empty = true := by simpa using filled
  refine .trans (.ite (fun started => ?_) fun unstarted => ?_) (respond_keeps ..)
  · exact .of_front_eq rfl fun h => h.reopened_started closed started empty
  · exact .of_front_eq rfl fun h => h.reopened_unstarted closed (by simpa using unstarted)

theorem closeFront_keeps (s : State) : Keeps s s.closeFront :=
  .ite (fun _ => respond_keeps ..) fun _ => (Keeps.of_front _ fun h => h.shut).trans (respond_keeps ..)

end Sys2Proof.Machine
end

section
/-! PROOFS. The spare rows of a rank (R78): its POOL entries in ascending order, and the rows that their runs number one
after another. -/

namespace Sys2Proof.Machine

/-! ### The POOL entries in ascending order -/

theorem insertByFirst_perm (e : RegionEntry) (l : List RegionEntry) : (insertByFirst e l).Perm (e :: l) := by
  induction l with
  | nil => exact .refl _
  | cons x xs ih =>
    simp only [insertByFirst]
    split
    · exact .refl _
    · exact (ih.cons x).trans (.swap e x xs)

theorem sortByFirst_perm (l : List RegionEntry) : (sortByFirst l).Perm l := by
  induction l with
  | nil => exact .refl _
  | cons e es ih => exact (insertByFirst_perm e _).trans (ih.cons e)

theorem insertByFirst_ascends (e : RegionEntry) {l : List RegionEntry}
    (h : l.Pairwise fun x y => x.first.toNat ≤ y.first.toNat) :
    (insertByFirst e l).Pairwise fun x y => x.first.toNat ≤ y.first.toNat := by
  induction l with
  | nil => simp [insertByFirst]
  | cons x xs ih =>
    obtain ⟨below, rest⟩ := List.pairwise_cons.1 h
    simp only [insertByFirst]
    split
    next le =>
      refine List.pairwise_cons.2 ⟨fun y hy => ?_, h⟩
      rcases List.mem_cons.1 hy with rfl | hy
      · exact le
      · exact le.trans (below y hy)
    next gt =>
      refine List.pairwise_cons.2 ⟨fun y hy => ?_, ih rest⟩
      rcases List.mem_cons.1 ((insertByFirst_perm e xs).subset hy) with rfl | hy
      · omega
      · exact below y hy

theorem sortByFirst_ascends (l : List RegionEntry) :
    (sortByFirst l).Pairwise fun x y => x.first.toNat ≤ y.first.toNat := by
  induction l with
  | nil => exact List.Pairwise.nil
  | cons e es ih => exact insertByFirst_ascends e ih

theorem RegionEntry.poolOf_iff (e : RegionEntry) (k : RankNo) :
    e.poolOf k = true ↔ e.valid = true ∧ e.rank.toNat = k.val ∧ e.policy = .pool := by
  simp [RegionEntry.poolOf, and_assoc]

theorem poolEntries_eq_filter (t : RegionTable) (k : RankNo) : poolEntries t k = t.toList.filter fun e => e.poolOf k := rfl

theorem mem_poolEntries (t : RegionTable) (k : RankNo) (e : RegionEntry) :
    e ∈ poolEntries t k ↔ ∃ i : RegionIx, t[i] = e ∧ e.poolOf k = true := by
  rw [poolEntries_eq_filter, List.mem_filter, Vector.mem_toList_iff, Vector.mem_iff_getElem]
  constructor
  · rintro ⟨⟨i, hi, rfl⟩, pool⟩
    exact ⟨⟨i, hi⟩, rfl, pool⟩
  · rintro ⟨i, rfl, pool⟩
    exact ⟨⟨i.val, i.isLt, rfl⟩, pool⟩

/-- Runs one after another, each above the one before it. -/
def runsAscend (l : List RegionEntry) : Prop :=
  (∀ e ∈ l, e.first.toNat ≤ e.last.toNat) ∧ l.Pairwise fun e f => e.last.toNat < f.first.toNat

theorem runsAscend_pools {t : RegionTable} (sound : tableSound t) (k : RankNo) :
    runsAscend (sortByFirst (poolEntries t k)) := by
  have perm := sortByFirst_perm (poolEntries t k)
  have runs : ∀ e ∈ sortByFirst (poolEntries t k), e.first.toNat ≤ e.last.toNat := by
    intro e he
    obtain ⟨i, rfl, pool⟩ := (mem_poolEntries t k e).1 (perm.subset he)
    exact (sound.1 i ((RegionEntry.poolOf_iff _ k).1 pool).1).2.1
  have apart : (poolEntries t k).Pairwise RegionEntry.Apart := by
    rw [poolEntries_eq_filter, List.pairwise_filter, List.pairwise_iff_getElem]
    intro i j hi hj lt pooli poolj
    simp only [Vector.length_toList] at hi hj
    simp only [Vector.getElem_toList] at pooli poolj ⊢
    obtain ⟨validi, ranki, -⟩ := (RegionEntry.poolOf_iff _ k).1 pooli
    obtain ⟨validj, rankj, -⟩ := (RegionEntry.poolOf_iff _ k).1 poolj
    exact sound.2 ⟨i, hi⟩ ⟨j, hj⟩ validi validj
      (.inl ⟨by simpa using lt.ne, BitVec.eq_of_toNat_eq (ranki.trans rankj.symm)⟩)
  have sorted_apart := (perm.pairwise_iff fun {x y} => Or.symm).2 apart
  refine ⟨runs, ((sortByFirst_ascends _).and sorted_apart).imp_of_mem fun {e f} he hf both => ?_⟩
  have := runs e he
  have := runs f hf
  rcases both.2 with below | above <;> omega

/-! ### The rows that the runs number -/

theorem stripeAt_isSome (l : List RegionEntry) (n : Nat) :
    (stripeAt l n).isSome = decide (n < (l.map RegionEntry.stripes).sum) := by
  induction l generalizing n with
  | nil => simp [stripeAt]
  | cons e es ih =>
    simp only [stripeAt, List.map_cons, List.sum_cons]
    split
    next here => simp; omega
    next later =>
      rw [ih, decide_eq_decide]
      omega

theorem stripeAt_cons_lt {e : RegionEntry} {es : List RegionEntry} {n : Nat} (here : n < e.stripes) :
    ∃ r : RowNo, stripeAt (e :: es) n = some r ∧ r.val = e.first.toNat + n := by
  have := e.last.isLt
  refine ⟨Fin.ofNat 65536 (e.first.toNat + n), by simp only [stripeAt, here, if_true], Nat.mod_eq_of_lt ?_⟩
  simp only [RegionEntry.stripes] at here
  omega

theorem stripeAt_mem {l : List RegionEntry} {n : Nat} {r : RowNo} (h : stripeAt l n = some r) :
    ∃ e ∈ l, e.first.toNat ≤ r.val ∧ r.val ≤ e.last.toNat := by
  induction l generalizing n with
  | nil => cases h
  | cons e es ih =>
    by_cases here : n < e.stripes
    · obtain ⟨x, hx, val⟩ := stripeAt_cons_lt (es := es) here
      obtain rfl : x = r := Option.some.inj (hx.symm.trans h)
      simp only [RegionEntry.stripes] at here
      exact ⟨e, by simp, by omega, by omega⟩
    · simp only [stripeAt, here, if_false] at h
      obtain ⟨f, hf, run⟩ := ih h
      exact ⟨f, by simp [hf], run⟩

theorem exists_stripeAt {l : List RegionEntry} {e : RegionEntry} {r : RowNo} (he : e ∈ l)
    (run : e.first.toNat ≤ r.val ∧ r.val ≤ e.last.toNat) : ∃ n, stripeAt l n = some r := by
  induction l with
  | nil => simp at he
  | cons f fs ih =>
    rcases List.mem_cons.1 he with rfl | he
    · have here : r.val - e.first.toNat < e.stripes := by
        simp only [RegionEntry.stripes]
        omega
      obtain ⟨x, hx, val⟩ := stripeAt_cons_lt (es := fs) here
      obtain rfl : x = r := Fin.ext (by omega)
      exact ⟨_, hx⟩
    · obtain ⟨n, hn⟩ := ih he
      exact ⟨n + f.stripes, by simpa [stripeAt] using hn⟩

theorem stripeAt_ascends {l : List RegionEntry} (h : runsAscend l) {m n : Nat} {r x : RowNo} (lt : m < n)
    (hm : stripeAt l m = some r) (hn : stripeAt l n = some x) : r < x := by
  induction l generalizing m n with
  | nil => cases hm
  | cons e es ih =>
    obtain ⟨above, rest⟩ := List.pairwise_cons.1 h.2
    have tail : runsAscend es := ⟨fun f hf => h.1 f (List.mem_cons_of_mem _ hf), rest⟩
    by_cases firstm : m < e.stripes
    · obtain ⟨y, hy, valm⟩ := stripeAt_cons_lt (es := es) firstm
      obtain rfl : y = r := Option.some.inj (hy.symm.trans hm)
      by_cases firstn : n < e.stripes
      · obtain ⟨z, hz, valn⟩ := stripeAt_cons_lt (es := es) firstn
        obtain rfl : z = x := Option.some.inj (hz.symm.trans hn)
        rw [Fin.lt_def]
        omega
      · simp only [stripeAt, firstn, if_false] at hn
        obtain ⟨f, hf, run⟩ := stripeAt_mem hn
        have := above f hf
        simp only [RegionEntry.stripes] at firstm
        rw [Fin.lt_def]
        omega
    · have firstn : ¬ n < e.stripes := by omega
      simp only [stripeAt, firstm, firstn, if_false] at hm hn
      exact ih tail (by omega) hm hn

/-! ### The spares of a rank -/

theorem poolStripe_iff (t : RegionTable) (k : RankNo) (r : RowNo) :
    poolStripe t k r ↔ ∃ e ∈ poolEntries t k, e.first.toNat ≤ r.val ∧ r.val ≤ e.last.toNat := by
  simp only [poolStripe, mem_poolEntries, RegionEntry.poolOf_iff]
  constructor
  · rintro ⟨i, valid, rank, policy, run⟩
    exact ⟨t[i], ⟨i, rfl, valid, rank, policy⟩, run⟩
  · rintro ⟨_, ⟨i, rfl, valid, rank, policy⟩, run⟩
    exact ⟨i, valid, rank, policy, run⟩

theorem spareAt_isSome (t : RegionTable) (k : RankNo) (n : Nat) :
    (spareAt t k n).isSome = decide (n < spareCount t k) := by
  rw [spareAt, stripeAt_isSome, spareCount, ((sortByFirst_perm (poolEntries t k)).map _).sum_eq]

theorem poolStripe_of_spareAt {t : RegionTable} {k : RankNo} {n : Nat} {r : RowNo} (h : spareAt t k n = some r) :
    poolStripe t k r := by
  obtain ⟨e, he, run⟩ := stripeAt_mem h
  exact (poolStripe_iff t k r).2 ⟨e, (sortByFirst_perm _).subset he, run⟩

theorem exists_spareAt {t : RegionTable} {k : RankNo} {r : RowNo} (h : poolStripe t k r) :
    ∃ n, spareAt t k n = some r := by
  obtain ⟨e, he, run⟩ := (poolStripe_iff t k r).1 h
  exact exists_stripeAt ((sortByFirst_perm _).symm.subset he) run

theorem spareAt_ascends {t : RegionTable} (sound : tableSound t) {k : RankNo} {m n : Nat} {r x : RowNo} (lt : m < n)
    (hm : spareAt t k m = some r) (hn : spareAt t k n = some x) : r < x :=
  stripeAt_ascends (runsAscend_pools sound k) lt hm hn

/-- Settles O51: the POOL entries sorted are runs one above another, so the rows they number one after another ascend. -/
theorem sparesAscend : Obligations.SparesAscend := by
  unfold Obligations.SparesAscend
  intro t k sound
  exact ⟨fun n r => poolStripe_of_spareAt, fun r => exists_spareAt, fun m n r x => spareAt_ascends sound,
    spareAt_isSome t k⟩

/-- No row is two spares of its rank. -/
theorem spareAt_inj {t : RegionTable} (sound : tableSound t) {k : RankNo} {m n : Nat} {r : RowNo}
    (hm : spareAt t k m = some r) (hn : spareAt t k n = some r) : m = n := by
  rcases Nat.lt_trichotomy m n with lt | eq | gt
  · exact absurd (spareAt_ascends sound lt hm hn) (lt_irrefl _)
  · exact eq
  · exact absurd (spareAt_ascends sound gt hn hm) (lt_irrefl _)

/-- Two sound tables with the same POOL set of a rank have the same spares of it in the same order. -/
theorem spareAt_congr {t u : RegionTable} (soundt : tableSound t) (soundu : tableSound u) {k : RankNo}
    (pool : ∀ r, poolStripe t k r ↔ poolStripe u k r) (n : Nat) : spareAt t k n = spareAt u k n := by
  have one : ∀ {t u : RegionTable}, tableSound t → tableSound u → (∀ r, poolStripe t k r → poolStripe u k r) →
      (∀ r, poolStripe u k r → poolStripe t k r) → ∀ n r, spareAt t k n = some r → spareAt u k n = some r := by
    intro t u soundt soundu there back n
    induction n using Nat.strong_induction_on with
    | _ n ih =>
      intro r hr
      obtain ⟨m, hm⟩ := exists_spareAt (there r (poolStripe_of_spareAt hr))
      rcases Nat.lt_trichotomy m n with lt | rfl | gt
      · have inside : m < spareCount t k := by
          have := spareAt_isSome t k n
          simp only [hr, Option.isSome_some, true_eq_decide_iff] at this
          omega
        have found : (spareAt t k m).isSome = true := by simpa [spareAt_isSome] using inside
        obtain ⟨x, hx⟩ := Option.isSome_iff_exists.1 found
        obtain rfl : x = r := Option.some.inj ((ih m lt x hx).symm.trans hm)
        exact absurd (spareAt_inj soundt hx hr) lt.ne
      · exact hm
      · have inside : n < spareCount u k := by
          have := spareAt_isSome u k m
          simp only [hm, Option.isSome_some, true_eq_decide_iff] at this
          omega
        have found : (spareAt u k n).isSome = true := by simpa [spareAt_isSome] using inside
        obtain ⟨y, hy⟩ := Option.isSome_iff_exists.1 found
        have below : y < r := spareAt_ascends soundu gt hy hm
        obtain ⟨p, hp⟩ := exists_spareAt (back y (poolStripe_of_spareAt hy))
        rcases Nat.lt_trichotomy p n with lt | rfl | gt'
        · exact absurd (spareAt_inj soundu (ih p lt y hp) hy) lt.ne
        · exact absurd (Option.some.inj (hp.symm.trans hr)) below.ne
        · exact absurd (spareAt_ascends soundt gt' hr hp) below.asymm
  apply Option.ext
  intro r
  exact ⟨one soundt soundu (fun r => (pool r).1) (fun r => (pool r).2) n r,
    one soundu soundt (fun r => (pool r).2) (fun r => (pool r).1) n r⟩

end Sys2Proof.Machine
end

section
/-! PROOFS. What every step keeps of the tables: the jobs' agreement with slots and mirrors (R77, R99, R100), the home rows
and locations of the entries in use (R76, R79), and the mirror records of the active table (R30, R116). -/

namespace Sys2Proof.Machine

/-! ### The job queue and the job in progress -/

/-- The slot's contents are PENDING. -/
def pendingIn (e : Option SlotEntry) : Bool := e.any SlotEntry.isPending

/-- The entry is COPYING. -/
def SlotEntry.isCopying (e : SlotEntry) : Bool :=
  match e.phase with
  | .copying _ => true
  | .pending _ | .active => false

/-- The slot's contents are COPYING. -/
def copyingIn (e : Option SlotEntry) : Bool := e.any SlotEntry.isCopying

/-- The record is in a REBUILD state. -/
def rebuildingIn (m : Option MirrorRecord) : Bool := m.any fun m => m.state.rebuilding.isSome

theorem State.slotPending_eq (s : State) : s.slotPending = fun i => pendingIn s.slots[i] := by
  funext i
  simp only [State.slotPending, pendingIn]
  cases s.slots[i] with
  | none => rfl
  | some e =>
    obtain ⟨home, current, phase, cause, lost⟩ := e
    cases phase <;> rfl

theorem State.slotCopying_eq (s : State) : s.slotCopying = fun i => copyingIn s.slots[i] := by
  funext i
  simp only [State.slotCopying, copyingIn]
  cases s.slots[i] with
  | none => rfl
  | some e =>
    obtain ⟨home, current, phase, cause, lost⟩ := e
    cases phase <;> rfl

theorem State.regionRebuilding_eq (s : State) : s.regionRebuilding = fun i => rebuildingIn s.mirrors[i] := by
  funext i
  simp only [State.regionRebuilding, rebuildingIn]
  cases s.mirrors[i] with
  | none => rfl
  | some m =>
    obtain ⟨state, _, _, _⟩ := m
    cases state <;> rfl

namespace JobTables

variable {q : List JobRef} {now : Option JobRef} {p c : SlotIx → Bool} {r : RegionIx → Bool}
  {p' c' : SlotIx → Bool} {r' : RegionIx → Bool} (h : JobTables q now p c r)
include h

theorem congr (hp : ∀ j, p' j = p j) (hc : ∀ j, c' j = c j) (hr : ∀ j, r' j = r j) : JobTables q now p' c' r' := by
  obtain rfl : p' = p := funext hp
  obtain rfl : c' = c := funext hc
  obtain rfl : r' = r := funext hr
  exact h

/-- A row move joins the queue with its slot PENDING. -/
theorem addMove {i : SlotIx} (out : p i = false) (hp : ∀ j, p' j = (decide (j = i) || p j)) :
    JobTables (q ++ [.rowMove i]) now p' c r := by
  obtain ⟨nodup, moves, move, resyncs, resync⟩ := h
  refine ⟨?_, fun j => ?_, move, fun j => ?_, fun j hj => ?_⟩
  · rw [← List.concat_eq_append]
    refine nodup.concat fun there => ?_
    simp [(moves i).1 there] at out
  · simp [hp, moves, or_comm]
  · simpa using resyncs j
  · simpa using resync j hj

/-- A row move leaves the queue with its slot PENDING no longer. -/
theorem dropMove {i : SlotIx} (hp : ∀ j, p' j = (decide (j ≠ i) && p j)) : JobTables (q.erase (.rowMove i)) now p' c r := by
  obtain ⟨nodup, moves, move, resyncs, resync⟩ := h
  refine ⟨nodup.erase _, fun j => ?_, move, fun j => ?_, fun j hj => ?_⟩
  · simp [nodup.mem_erase_iff, hp, moves]
  · simpa [nodup.mem_erase_iff] using resyncs j
  · simpa [nodup.mem_erase_iff] using resync j hj

/-- The row move in progress ends, or is abandoned, with its slot COPYING no longer. -/
theorem endMove {i : SlotIx} {now' : Option JobRef} (hnow : ∀ ref, now' = some ref ↔ now = some ref ∧ ref ≠ .rowMove i)
    (hc : ∀ j, c' j = (decide (j ≠ i) && c j)) : JobTables q now' p c' r := by
  obtain ⟨nodup, moves, move, resyncs, resync⟩ := h
  refine ⟨nodup, moves, fun j => ?_, fun j => ?_, fun j hj => resync j ((hnow _).1 hj).1⟩
  · simp only [hnow, hc, Bool.and_eq_true, decide_eq_true_eq, ← move j, ne_eq, JobRef.rowMove.injEq]
    tauto
  · simpa [hnow] using resyncs j

/-- The resync at the head or in progress ends, or is cancelled, with its region rebuilding no longer. -/
theorem dropResync {i : RegionIx} {now' : Option JobRef} (hnow : ∀ ref, now' = some ref ↔ now = some ref ∧ ref ≠ .resync i)
    (hr : ∀ j, r' j = (decide (j ≠ i) && r j)) : JobTables (q.erase (.resync i)) now' p c r' := by
  obtain ⟨nodup, moves, move, resyncs, resync⟩ := h
  refine ⟨nodup.erase _, fun j => ?_, fun j => ?_, fun j => ?_, fun j hj => ?_⟩
  · simpa [nodup.mem_erase_iff] using moves j
  · simpa [hnow] using move j
  · simp only [nodup.mem_erase_iff, hnow, hr, Bool.and_eq_true, decide_eq_true_eq, ← resyncs j, ne_eq, JobRef.resync.injEq]
    tauto
  · have := resync j ((hnow _).1 hj).1
    simp [nodup.mem_erase_iff, this]

/-- A resync joins the queue with its region rebuilding. -/
theorem addResyncs {l : List RegionIx} (distinct : l.Nodup) (out : ∀ i ∈ l, r i = false)
    (hr : ∀ j, r' j = (decide (j ∈ l) || r j)) : JobTables (q ++ l.map .resync) now p c r' := by
  obtain ⟨nodup, moves, move, resyncs, resync⟩ := h
  have idle (i) (hi : i ∈ l) : .resync i ∉ q ∧ now ≠ some (.resync i) := by
    rw [← not_or, resyncs, out i hi]
    simp
  refine ⟨?_, fun j => ?_, move, fun j => ?_, fun j hj => ?_⟩
  · refine List.nodup_append.2 ⟨nodup, distinct.map fun _ _ e => JobRef.resync.inj e, fun a ha b hb => ?_⟩
    obtain ⟨i, hi, rfl⟩ := List.mem_map.1 hb
    rintro rfl
    exact (idle i hi).1 ha
  · simpa using moves j
  · simp only [List.mem_append, List.mem_map, JobRef.resync.injEq, exists_eq_right, hr, Bool.or_eq_true, decide_eq_true_eq,
      ← resyncs j]
    tauto
  · simp only [List.mem_append, List.mem_map, JobRef.resync.injEq, exists_eq_right, not_or]
    exact ⟨resync j hj, fun there => (idle j there).2 hj⟩

/-- The row move at the head of the queue begins: its slot is COPYING. -/
theorem beginMove {i : SlotIx} {rest : List JobRef} (head : q = .rowMove i :: rest) (rests : now = none)
    (hp : ∀ j, p' j = (decide (j ≠ i) && p j)) (hc : ∀ j, c' j = (decide (j = i) || c j)) :
    JobTables rest (some (.rowMove i)) p' c' r := by
  subst head rests
  obtain ⟨nodup, moves, move, resyncs, resync⟩ := h
  obtain ⟨once, nodup⟩ := List.nodup_cons.1 nodup
  refine ⟨nodup, fun j => ?_, fun j => ?_, fun j => ?_, fun j hj => by cases hj⟩
  · have := moves j
    by_cases same : j = i
    · simp [hp, same, once]
    · simpa [hp, same] using this
  · have := move j
    by_cases same : j = i
    · simp [hc, same]
    · have none_copies : c j = false := by simpa using this
      simp [hc, same, Ne.symm same, none_copies]
  · simpa using resyncs j

/-- The resync at the head of the queue begins. -/
theorem beginResync {i : RegionIx} {rest : List JobRef} (head : q = .resync i :: rest) (rests : now = none) :
    JobTables rest (some (.resync i)) p c r := by
  subst head rests
  obtain ⟨nodup, moves, move, resyncs, resync⟩ := h
  obtain ⟨once, nodup⟩ := List.nodup_cons.1 nodup
  refine ⟨nodup, fun j => ?_, fun j => ?_, fun j => ?_, fun j hj => ?_⟩
  · simpa using moves j
  · simpa using move j
  · rw [← resyncs j]
    simp only [Option.some.injEq, JobRef.resync.injEq, List.mem_cons, reduceCtorEq, or_false]
    rw [or_comm, eq_comm]
  · obtain rfl : i = j := by simpa using hj
    exact once

end JobTables

/-! ### The entries in use -/

theorem State.HomesApart.set {s : State} (h : s.HomesApart) {i : SlotIx} {e : Option SlotEntry}
    (apart : ∀ x ∈ e, ∀ j, j ≠ i → ∀ f ∈ s.slots[j], f.home ≠ x.home) :
    State.HomesApart { s with slots := s.slots.set i e } := by
  intro a b x hx y hy same
  simp only [getElem_set] at hx hy
  split at hx <;> split at hy
  next ha hb => rw [ha, hb]
  next ha hb => exact absurd same.symm (apart x hx b hb y hy)
  next ha hb => exact absurd same (apart y hy a ha x hx)
  next ha hb => exact h a b x hx y hy same

/-- An entry that keeps the home row of the one it replaces. -/
theorem State.HomesApart.update {s : State} (h : s.HomesApart) {i : SlotIx} {e : SlotEntry} (here : s.slots[i] = some e)
    {e' : Option SlotEntry} (home : ∀ x ∈ e', x.home = e.home) :
    State.HomesApart { s with slots := s.slots.set i e' } :=
  h.set fun x hx j hj f hf same => hj (h j i f hf e here (same.trans (home x hx)))

/-- The row is one of the entry's two locations. -/
def SlotEntry.occupies (e : SlotEntry) (r : PhysRow) : Prop := e.currentRow = r ∨ e.nextRow = some r

/-- What R76 and R77 say of one entry in use, over a table and what is taken of its spares. -/
def SlotEntry.Placed (e : SlotEntry) (t : RegionTable) (taken : RankNo → BankNo → RowNo → Prop) : Prop :=
  (∃ j patrol, decodeRow t e.home = .region j .spared patrol)
    ∧ ((e.current = e.home.row ∧ e.phase ≠ .active) ∨ taken e.home.rank e.home.bank e.current)
    ∧ ∀ r ∈ e.nextRow, taken e.home.rank e.home.bank r.row

/-- No row is in two roles: no two entries share a location, and no entry's two locations are one row. -/
def rolesApart (v : SlotTable) : Prop :=
  (∀ i j : SlotIx, ∀ e ∈ v[i], ∀ f ∈ v[j], ∀ r, e.occupies r → f.occupies r → i = j)
    ∧ ∀ i : SlotIx, ∀ e ∈ v[i], e.nextRow ≠ some e.currentRow

theorem State.sparesSound_iff (s : State) :
    s.SparesSound ↔
      (∀ (k : RankNo) (b : BankNo), s.cursors[cursorIx k b] ≤ spareCount s.active k)
        ∧ (∀ i : SlotIx, ∀ e ∈ s.slots[i], e.Placed s.active s.spareTaken) ∧ rolesApart s.slots := by
  refine and_congr Iff.rfl (and_congr Iff.rfl ⟨fun roles => ⟨fun i j e he f hf r => ?_, fun i e he => ?_⟩, fun roles => ?_⟩)
  · obtain ⟨currents, mixed, nexts⟩ := roles i j e he f hf
    rintro (rfl | ce) (cf | nf)
    · exact currents cf.symm
    · exact absurd nf (roles j i f hf e he).2.1
    · exact absurd (cf ▸ ce) mixed
    · exact nexts (by simp [ce]) (ce.trans nf.symm)
  · exact (roles i i e he e he).2.1
  · intro i j e he f hf
    refine ⟨fun same => roles.1 i j e he f hf _ (.inl rfl) (.inl same.symm), fun mixed => ?_, fun some_next same => ?_⟩
    · obtain rfl := roles.1 i j e he f hf _ (.inr mixed) (.inl rfl)
      obtain rfl : e = f := Option.some.inj (he.symm.trans hf)
      exact roles.2 i e he mixed
    · obtain ⟨r, hr⟩ := Option.ne_none_iff_exists'.1 some_next
      exact roles.1 i j e he f hf r (.inr hr) (.inr (same ▸ hr))

theorem rolesApart.set {v : SlotTable} (h : rolesApart v) {i : SlotIx} {e : Option SlotEntry}
    (own : ∀ x ∈ e, x.nextRow ≠ some x.currentRow)
    (apart : ∀ x ∈ e, ∀ r, x.occupies r → ∀ j, j ≠ i → ∀ f ∈ v[j], ¬ f.occupies r) : rolesApart (v.set i e) := by
  refine ⟨fun a b x hx y hy r xr yr => ?_, fun a x hx => ?_⟩
  · simp only [getElem_set] at hx hy
    split at hx <;> split at hy
    next ha hb => rw [ha, hb]
    next ha hb => exact absurd yr (apart x hx r xr b hb y hy)
    next ha hb => exact absurd xr (apart y hy r yr a ha x hx)
    next ha hb => exact h.1 a b x hx y hy r xr yr
  · simp only [getElem_set] at hx
    split at hx
    · exact own x hx
    · exact h.2 a x hx

/-- An entry that holds no location but those of the one it replaces, and one that no entry holds. -/
theorem rolesApart.update {v : SlotTable} (h : rolesApart v) {i : SlotIx} {e : SlotEntry} (here : v[i] = some e)
    {e' : Option SlotEntry} {fresh : PhysRow → Prop} (own : ∀ x ∈ e', x.nextRow ≠ some x.currentRow)
    (held : ∀ x ∈ e', ∀ r, x.occupies r → e.occupies r ∨ fresh r)
    (new : ∀ r, fresh r → ∀ j : SlotIx, ∀ f ∈ v[j], ¬ f.occupies r) : rolesApart (v.set i e') :=
  h.set own fun x hx r xr j hj f hf fr => (held x hx r xr).elim
    (fun old => hj (h.1 j i f hf e here r fr old)) fun free => new r free j f hf fr

/-- The row decodes to SPARED and is no spare. -/
theorem not_poolStripe_of_spared {t : RegionTable} (sound : tableSound t) {r : PhysRow} {j : RegionIx} {patrol : Bool}
    (spared : decodeRow t r = .region j .spared patrol) : ¬ poolStripe t r.rank r.row := by
  rintro ⟨i, valid, rank, policy, run⟩
  have cover : t[i].covers r.rank r.row = true := (RegionEntry.covers_iff _ _ _).2 ⟨valid, rank, run⟩
  have decoded : decodeRow t r = .region i t[i].policy t[i].patrol :=
    decodeStripe_of_covers cover fun n lt => by
      by_contra also
      exact absurd (eq_of_covers sound (by simpa using also) cover) lt.ne
  rw [decoded, policy] at spared
  cases spared

/-- The row at a spare cursor is a location of no entry in use. -/
theorem State.SparesSound.fresh {s : State} (regions : s.RegionsSound) (h : s.SparesSound) {k : RankNo} {b : BankNo}
    {x : RowNo} (spare : spareAt s.active k s.cursors[cursorIx k b] = some x) (j : SlotIx) (f : SlotEntry)
    (hf : f ∈ s.slots[j]) : ¬ f.occupies { rank := k, bank := b, row := x } := by
  obtain ⟨-, placed, -⟩ := s.sparesSound_iff.1 h
  obtain ⟨⟨n, patrol, spared⟩, current, next⟩ := placed j f hf
  have untaken : ¬ s.spareTaken k b x := by
    rintro ⟨m, below, hm⟩
    exact absurd (spareAt_inj regions.1 hm spare) below.ne
  rintro (here | here)
  · obtain ⟨rfl, rfl, rfl⟩ : f.home.rank = k ∧ f.home.bank = b ∧ f.current = x := by
      simpa [SlotEntry.currentRow] using here
    rcases current with ⟨home, -⟩ | taken
    · exact not_poolStripe_of_spared regions.1 spared (home ▸ poolStripe_of_spareAt spare)
    · exact untaken taken
  · obtain ⟨rfl, rfl⟩ : f.home.rank = k ∧ f.home.bank = b := by
      simp only [SlotEntry.nextRow] at here
      split at here <;> simp_all
    exact untaken (next _ here)

theorem cursorIx_val (k : RankNo) (b : BankNo) : (cursorIx k b).val = 16 * k.val + b.val := Nat.mod_eq_of_lt (by omega)

theorem cursorIx_inj {k k' : RankNo} {b b' : BankNo} (h : cursorIx k b = cursorIx k' b') : k = k' ∧ b = b' := by
  have := congrArg Fin.val h
  rw [cursorIx_val, cursorIx_val] at this
  exact ⟨Fin.ext (by omega), Fin.ext (by omega)⟩

/-- The cursor of one bank moved past the spare it stood at: that spare is taken, as are those that were. -/
theorem State.spareTaken_next {s : State} {k : RankNo} {b : BankNo} {x : RowNo}
    (spare : spareAt s.active k s.cursors[cursorIx k b] = some x) {v : SlotTable} {g : Engine} {k' : RankNo} {b' : BankNo}
    {y : RowNo} :
    (k' = k ∧ b' = b ∧ y = x) ∨ s.spareTaken k' b' y →
    State.spareTaken
      { s with slots := v, engine := g, cursors := s.cursors.set (cursorIx k b) (s.cursors[cursorIx k b] + 1) } k' b' y := by
  rintro (⟨rfl, rfl, rfl⟩ | ⟨n, below, hn⟩)
  · exact ⟨s.cursors[cursorIx k' b'], by simp, spare⟩
  · refine ⟨n, ?_, hn⟩
    simp only [getElem_set]
    split
    next same =>
      simp only [same] at below
      omega
    next => exact below

theorem cursors_next {s : State} (h : ∀ (k : RankNo) (b : BankNo), s.cursors[cursorIx k b] ≤ spareCount s.active k)
    {k : RankNo} {b : BankNo} {x : RowNo} (spare : spareAt s.active k s.cursors[cursorIx k b] = some x) (k' : RankNo)
    (b' : BankNo) :
    (s.cursors.set (cursorIx k b) (s.cursors[cursorIx k b] + 1))[cursorIx k' b'] ≤ spareCount s.active k' := by
  rw [getElem_set]
  split
  next same =>
    obtain rfl := (cursorIx_inj same).1
    have := spareAt_isSome s.active k' s.cursors[cursorIx k' b]
    rw [spare] at this
    simpa [Nat.succ_le_iff, eq_comm] using this
  next => exact h k' b'

theorem SlotEntry.Placed.mono {e : SlotEntry} {t : RegionTable} {taken taken' : RankNo → BankNo → RowNo → Prop}
    (h : e.Placed t taken) (more : ∀ k b r, taken k b r → taken' k b r) : e.Placed t taken' :=
  ⟨h.1, h.2.1.imp id (more _ _ _), fun r hr => more _ _ _ (h.2.2 r hr)⟩

/-- One slot takes other contents with a spare allocated for its row's bank. -/
theorem State.SparesSound.allocated {s : State} (h : s.SparesSound) {k : RankNo} {b : BankNo} {x : RowNo}
    (spare : spareAt s.active k s.cursors[cursorIx k b] = some x) {i : SlotIx} {e : SlotEntry} {g : Engine}
    (placed : e.Placed s.active fun k' b' y => (k' = k ∧ b' = b ∧ y = x) ∨ s.spareTaken k' b' y)
    (roles : rolesApart (s.slots.set i (some e))) :
    State.SparesSound { s with
      slots := s.slots.set i (some e)
      engine := g
      cursors := s.cursors.set (cursorIx k b) (s.cursors[cursorIx k b] + 1) } := by
  obtain ⟨cursors, entries, -⟩ := s.sparesSound_iff.1 h
  refine (State.sparesSound_iff _).2 ⟨cursors_next cursors spare, fun j f hf => ?_, roles⟩
  simp only [getElem_set] at hf
  split at hf
  · obtain rfl : e = f := Option.some.inj hf
    exact placed.mono fun _ _ _ => State.spareTaken_next spare
  · exact (entries j f hf).mono fun _ _ _ taken => State.spareTaken_next spare (.inr taken)

/-- One slot takes other contents with no spare allocated. -/
theorem State.SparesSound.update {s : State} (h : s.SparesSound) {i : SlotIx} {e : Option SlotEntry} {g : Engine}
    (placed : ∀ x ∈ e, x.Placed s.active s.spareTaken) (roles : rolesApart (s.slots.set i e)) :
    State.SparesSound { s with slots := s.slots.set i e, engine := g } := by
  obtain ⟨cursors, entries, -⟩ := s.sparesSound_iff.1 h
  refine (State.sparesSound_iff _).2 ⟨cursors, fun j f hf => ?_, roles⟩
  simp only [getElem_set] at hf
  split at hf
  · exact placed f hf
  · exact entries j f hf

end Sys2Proof.Machine
end

section
/-! PROOFS. What the operations on slots, mirror records and the job in progress keep: retirements (R81 to R88, R94), jobs
begun, ended, restarted and closed (R101, R108, R111 to R113), and side counts (R117, R118). -/

namespace Sys2Proof.Machine

namespace Keeps

variable {s : State}

/-- A change of the slots, the cursors and the engine. -/
theorem of_slots (v : SlotTable) (g : Engine) (cs : Vector Nat 64)
    (homes : s.HomesApart → State.HomesApart { s with slots := v })
    (spares : s.RegionsSound → s.SparesSound → State.SparesSound { s with slots := v, engine := g, cursors := cs })
    (jobs : s.JobsSound → State.JobsSound { s with slots := v, engine := g }) :
    Keeps s { s with slots := v, engine := g, cursors := cs } :=
  ⟨rfl, id, id, id, id, id, id, homes, fun r _ h => spares r h, jobs⟩

/-- A change of one mirror record and of the engine. -/
theorem of_mirror {i : RegionIx} {m m' : MirrorRecord} (here : s.mirrors[i] = some m) (g : Engine)
    (counts : m.primaryCount ≤ 4 ∧ m.shadowCount ≤ 4 → m'.primaryCount ≤ 4 ∧ m'.shadowCount ≤ 4)
    (jobs : s.JobsSound → State.JobsSound { s with mirrors := s.mirrors.set i (some m'), engine := g }) :
    Keeps s { s with mirrors := s.mirrors.set i (some m'), engine := g } := by
  refine ⟨rfl, id, id, id, id, id, fun h => ?_, id, fun _ _ h => h, jobs⟩
  obtain ⟨table, normal, records, bounds⟩ := h
  refine ⟨table, normal, fun j => ?_, fun j x hx => ?_⟩
  · rw [← records j]
    simp only [getElem_set]
    split
    next same => simp [same, -Fin.getElem_fin, here]
    next => rfl
  · simp only [getElem_set] at hx
    split at hx
    next same =>
      obtain rfl : m' = x := Option.some.inj hx
      exact counts (bounds i m here)
    next => exact bounds j x hx

end Keeps

/-! ### The part a row plays (R81) -/

theorem State.partOf_current {s : State} {r : PhysRow} {i : SlotIx} {e : SlotEntry} (h : s.partOf r = .current i e) :
    s.slots[i] = some e ∧ e.currentRow = r := by
  simp only [State.partOf] at h
  split at h
  · cases h
  · split at h
    next found =>
      obtain ⟨rfl, rfl⟩ := RowPart.current.inj h
      exact ⟨(s.mem_slotsInUse _ _).1 (List.mem_of_find?_eq_some found), by simpa using List.find?_some found⟩
    next => split at h <;> cases h

theorem State.partOf_next {s : State} {r : PhysRow} {i : SlotIx} {e : SlotEntry} (h : s.partOf r = .next i e) :
    s.slots[i] = some e ∧ e.nextRow = some r := by
  simp only [State.partOf] at h
  split at h
  · cases h
  · split at h
    · cases h
    · split at h
      next found =>
        obtain ⟨rfl, rfl⟩ := RowPart.next.inj h
        exact ⟨(s.mem_slotsInUse _ _).1 (List.mem_of_find?_eq_some found), by simpa using List.find?_some found⟩
      next => cases h

theorem State.rowApart_of_partOf {s : State} {r : PhysRow} (h : s.partOf r = .none) : s.rowApart r := by
  simp only [State.partOf] at h
  split at h
  · cases h
  next stay =>
    split at h
    · cases h
    next current =>
      split at h
      · cases h
      next next =>
        intro i e he
        have used := (s.mem_slotsInUse i e).2 he
        have noCurrent : e.currentRow ≠ r := by simpa using List.find?_eq_none.1 current _ used
        have noNext : e.nextRow ≠ some r := by simpa using List.find?_eq_none.1 next _ used
        refine ⟨fun home => stay ?_, noCurrent, noNext⟩
        exact List.any_eq_true.2 ⟨_, used, by simpa using ⟨home, noCurrent⟩⟩

theorem State.rowSpared_iff (s : State) (r : PhysRow) :
    s.rowSpared r = true ↔ ∃ i patrol, decodeRow s.active r = .region i .spared patrol := by
  simp only [State.rowSpared]
  split
  next i patrol decoded => simp [decoded]
  next other =>
    simp only [Bool.false_eq_true, false_iff, not_exists]
    exact fun i patrol => other i patrol

theorem State.freeSlot_some {s : State} {i : SlotIx} (h : s.freeSlot = some i) : s.slots[i] = none := by
  simpa using List.find?_some h

/-! ### One slot's part in the jobs -/

theorem pendingIn_set (v : SlotTable) (i j : SlotIx) (e : Option SlotEntry) :
    pendingIn (v.set i e)[j] = if j = i then pendingIn e else pendingIn v[j] := by
  rw [getElem_set]
  split <;> rfl

theorem copyingIn_set (v : SlotTable) (i j : SlotIx) (e : Option SlotEntry) :
    copyingIn (v.set i e)[j] = if j = i then copyingIn e else copyingIn v[j] := by
  rw [getElem_set]
  split <;> rfl

theorem rebuildingIn_set (v : Vector (Option MirrorRecord) 8) (i j : RegionIx) (m : Option MirrorRecord) :
    rebuildingIn (v.set i m)[j] = if j = i then rebuildingIn m else rebuildingIn v[j] := by
  rw [getElem_set]
  split <;> rfl

/-- The agreement of the jobs, said of what the slots and the mirror records hold. -/
theorem State.jobsSound_iff_in (s : State) :
    s.JobsSound ↔
      JobTables s.engine.queue s.engine.inProgress (fun i => pendingIn s.slots[i]) (fun i => copyingIn s.slots[i])
          (fun i => rebuildingIn s.mirrors[i])
        ∧ (s.engine.mode = .idle ↔ s.engine.job = none) ∧ s.engine.closedWaits := by
  rw [s.jobsSound_iff, s.slotPending_eq, s.slotCopying_eq, s.regionRebuilding_eq]

/-- A slot whose phase plays the same part as before. -/
theorem State.JobsSound.samePhase {s : State} (h : s.JobsSound) {i : SlotIx} {e : Option SlotEntry}
    (pending : pendingIn e = pendingIn s.slots[i]) (copying : copyingIn e = copyingIn s.slots[i]) :
    State.JobsSound { s with slots := s.slots.set i e } := by
  rw [State.jobsSound_iff_in] at h ⊢
  obtain ⟨tables, rest⟩ := h
  refine ⟨tables.congr (fun j => ?_) (fun j => ?_) (fun j => rfl), rest⟩
  · rw [pendingIn_set]
    split
    next same => rw [same, pending]
    next => rfl
  · rw [copyingIn_set]
    split
    next same => rw [same, copying]
    next => rfl

/-- A slot turned PENDING with its row move queued. -/
theorem State.JobsSound.queueMove {s : State} (h : s.JobsSound) {i : SlotIx} {e : SlotEntry} (pending : e.isPending = true)
    (notPending : pendingIn s.slots[i] = false) (notCopying : copyingIn s.slots[i] = false) :
    State.JobsSound { s with
      slots := s.slots.set i (some e), engine := { s.engine with queue := s.engine.queue ++ [.rowMove i] } } := by
  have copying : copyingIn (some e) = false := by
    obtain ⟨home, current, phase, cause, lost⟩ := e
    cases phase <;> simp_all [copyingIn, SlotEntry.isCopying, SlotEntry.isPending]
  rw [State.jobsSound_iff_in] at h ⊢
  obtain ⟨tables, rest⟩ := h
  refine ⟨(tables.addMove notPending fun j => ?_).congr (fun j => rfl) (fun j => ?_) fun j => rfl, rest⟩
  · rw [pendingIn_set]
    by_cases same : j = i
    · simpa [same, pendingIn] using pending
    · simp [same]
  · rw [copyingIn_set]
    split
    next same => rw [same, copying, notCopying]
    next => rfl

/-! ### Retirements (R83 to R88, R94) -/

section
variable {s : State} {r : PhysRow} {i : SlotIx} {x : RowNo}

/-- A row of a SPARED region and a spare of its bank are two rows. -/
theorem State.RegionsSound.spared_ne_spare (regions : s.RegionsSound) (spared : s.rowSpared r = true)
    (spare : spareAt s.active r.rank s.cursors[cursorIx r.rank r.bank] = some x) : r.row ≠ x := by
  rintro rfl
  obtain ⟨j, patrol, decoded⟩ := (s.rowSpared_iff r).1 spared
  exact not_poolStripe_of_spared regions.1 decoded (poolStripe_of_spareAt spare)

theorem newRetirement_slot_keeps {c : Cause} (apart : s.rowApart r) (spared : s.rowSpared r = true)
    (free : s.slots[i] = none) (spare : spareAt s.active r.rank s.cursors[cursorIx r.rank r.bank] = some x) :
    Keeps s { s with
      slots := s.slots.set i (some { home := r, current := r.row, phase := .pending x, cause := c, lost := 0 })
      engine := { s.engine with queue := s.engine.queue ++ [.rowMove i] }
      cursors := s.cursors.set (cursorIx r.rank r.bank) (s.cursors[cursorIx r.rank r.bank] + 1) } := by
  refine .of_slots _ _ _ (fun h => h.set ?homes) (fun regions h => h.allocated spare ?placed ?roles)
    fun h => h.queueMove rfl (by simp [pendingIn, free]) (by simp [copyingIn, free])
  case homes =>
    rintro _ ⟨⟩ j - f hf
    exact (apart j f hf).1
  case placed =>
    refine ⟨(s.rowSpared_iff r).1 spared, .inl ⟨rfl, by simp⟩, ?_⟩
    rintro _ ⟨⟩
    exact .inl ⟨rfl, rfl, rfl⟩
  case roles =>
    refine ((s.sparesSound_iff.1 h).2.2).set ?_ ?_
    · rintro _ ⟨⟩ same
      have : x = r.row := by simpa [SlotEntry.nextRow, SlotEntry.currentRow] using same
      exact regions.spared_ne_spare spared spare this.symm
    · rintro _ ⟨⟩ row (here | here) j - f hf
      · obtain rfl : r = row := here
        exact fun held => held.elim (apart j f hf).2.1 (apart j f hf).2.2
      · obtain rfl : { r with row := x } = row := Option.some.inj here
        exact h.fresh regions spare j f hf

theorem newNoCopy_slot_keeps {c : Cause} (apart : s.rowApart r) (spared : s.rowSpared r = true)
    (free : s.slots[i] = none) (spare : spareAt s.active r.rank s.cursors[cursorIx r.rank r.bank] = some x) :
    Keeps s { s with
      slots := s.slots.set i (some { home := r, current := x, phase := .active, cause := c, lost := 0 })
      cursors := s.cursors.set (cursorIx r.rank r.bank) (s.cursors[cursorIx r.rank r.bank] + 1) } := by
  refine .of_slots _ s.engine _ (fun h => h.set ?homes) (fun regions h => h.allocated spare ?placed ?roles)
    fun h => h.samePhase (by rw [free]; rfl) (by rw [free]; rfl)
  case homes =>
    rintro _ ⟨⟩ j - f hf
    exact (apart j f hf).1
  case placed =>
    refine ⟨(s.rowSpared_iff r).1 spared, .inr (.inl ⟨rfl, rfl, rfl⟩), ?_⟩
    rintro _ ⟨⟩
  case roles =>
    refine ((s.sparesSound_iff.1 h).2.2).set ?_ ?_
    · rintro _ ⟨⟩ same
      cases same
    · rintro _ ⟨⟩ row (here | here) j - f hf
      · obtain rfl : { r with row := x } = row := here
        exact h.fresh regions spare j f hf
      · cases here

variable {e : SlotEntry} (here : s.slots[i] = some e)
include here

/-- An entry takes a spare as its next location, its current one as it was. -/
theorem nextSpare_keeps {phase : SlotPhase} {cause : Cause} {lost : Nat} {g : Engine}
    (next : phase = .pending x ∨ phase = .copying x)
    (spare : spareAt s.active e.home.rank s.cursors[cursorIx e.home.rank e.home.bank] = some x)
    (jobs : s.JobsSound → State.JobsSound { s with
      slots := s.slots.set i (some { e with phase := phase, cause := cause, lost := lost }), engine := g }) :
    Keeps s { s with
      slots := s.slots.set i (some { e with phase := phase, cause := cause, lost := lost })
      engine := g
      cursors := s.cursors.set (cursorIx e.home.rank e.home.bank) (s.cursors[cursorIx e.home.rank e.home.bank] + 1) } := by
  have nextRow : SlotEntry.nextRow { e with phase := phase, cause := cause, lost := lost } = some { e.home with row := x } := by
    rcases next with rfl | rfl <;> rfl
  refine .of_slots _ _ _ (fun h => h.update here (by rintro _ ⟨⟩; rfl)) (fun regions h => h.allocated spare ?placed ?roles)
    jobs
  case placed =>
    obtain ⟨spared, current, -⟩ := (s.sparesSound_iff.1 h).2.1 i e here
    refine ⟨spared, current.imp (fun home => ⟨home.1, ?_⟩) .inr, fun row hrow => ?_⟩
    · rcases next with rfl | rfl <;> simp
    · rw [nextRow] at hrow
      obtain rfl := Option.some.inj hrow
      exact .inl ⟨rfl, rfl, rfl⟩
  case roles =>
    have fresh := h.fresh regions spare
    refine ((s.sparesSound_iff.1 h).2.2).update here (fresh := (· = { e.home with row := x })) ?_ ?_ ?_
    · rintro _ ⟨⟩ same
      rw [nextRow] at same
      exact fresh i e here (.inl (Option.some.inj same).symm)
    · rintro _ ⟨⟩ row (held | held)
      · exact .inl (.inl held)
      · exact .inr (Option.some.inj (nextRow.symm.trans held)).symm
    · rintro _ rfl
      exact fresh

/-- An ACTIVE entry takes a spare as its current location. -/
theorem currentSpare_keeps {cause : Cause} {lost : Nat} (active : e.phase = .active)
    (spare : spareAt s.active e.home.rank s.cursors[cursorIx e.home.rank e.home.bank] = some x) :
    Keeps s { s with
      slots := s.slots.set i (some { e with current := x, cause := cause, lost := lost })
      cursors := s.cursors.set (cursorIx e.home.rank e.home.bank) (s.cursors[cursorIx e.home.rank e.home.bank] + 1) } := by
  have nextRow : SlotEntry.nextRow { e with current := x, cause := cause, lost := lost } = none := by
    simp only [SlotEntry.nextRow, active]
  refine .of_slots _ s.engine _ (fun h => h.update here (by rintro _ ⟨⟩; rfl))
    (fun regions h => h.allocated spare ?placed ?roles) fun h => h.samePhase (by rw [here]; rfl) (by rw [here]; rfl)
  case placed =>
    refine ⟨((s.sparesSound_iff.1 h).2.1 i e here).1, .inr (.inl ⟨rfl, rfl, rfl⟩), fun row hrow => ?_⟩
    rw [nextRow] at hrow
    cases hrow
  case roles =>
    refine ((s.sparesSound_iff.1 h).2.2).update here (fresh := (· = { e.home with row := x })) ?_ ?_ ?_
    · rintro _ ⟨⟩
      simp [nextRow]
    · rintro _ ⟨⟩ row (held | held)
      · exact .inr held.symm
      · rw [nextRow] at held
        cases held
    · rintro _ rfl
      exact h.fresh regions spare

/-- An entry, FREE now or not, of the locations that were its own. -/
theorem fewerRows_keeps {e' : Option SlotEntry} {g : Engine} (home : ∀ y ∈ e', y.home = e.home)
    (placed : ∀ {t taken}, e.Placed t taken → ∀ y ∈ e', y.Placed t taken)
    (held : ∀ y ∈ e', ∀ row, y.occupies row → e.occupies row)
    (own : e.nextRow ≠ some e.currentRow → ∀ y ∈ e', y.nextRow ≠ some y.currentRow)
    (jobs : s.JobsSound → State.JobsSound { s with slots := s.slots.set i e', engine := g }) :
    Keeps s { s with slots := s.slots.set i e', engine := g } := by
  refine .of_slots _ _ s.cursors (fun h => h.update here home) (fun _ h => h.update ?_ ?_) jobs
  · exact placed ((s.sparesSound_iff.1 h).2.1 i e here)
  · obtain ⟨-, -, roles⟩ := s.sparesSound_iff.1 h
    exact roles.update here (fresh := fun _ => False) (own (roles.2 i e here)) (fun y hy row hr => .inl (held y hy row hr))
      fun _ no => no.elim

end

/-! ### The job in progress restarted or closed (R111, R112, R113) -/

theorem restartJob_keeps (s : State) (ref : JobRef) (source target : PhysRow) :
    Keeps s (s.restartJob ref source target) := by
  simp only [State.restartJob]
  split
  · exact .refl s
  next j found =>
    obtain ⟨job, rfl, -⟩ := s.jobFor_eq_some.1 found
    refine .trans ?_ (releaseHeld_keeps _ _)
    refine step_keeps job (f := fun j => { j with ends := .rows source target, p := 0, lost := 0,
                                                  step := j.step.map LineStep.discard }) rfl rfl ?_
    intro st hst _
    exact ⟨st.discard, by simp [Option.mem_def.1 hst], rfl⟩

/-- The engine when the job in progress for a reference is closed (R112, R113). -/
def Engine.closing (e : Engine) (j : Job) : Engine :=
  match j.step with
  | none => { e with mode := .idle, job := none }
  | some st => { e with job := some { j with step := some st.discard, lost := j.lost - j.lossInFlight, closed := true } }

theorem State.closeJob_eq_release {s : State} {ref : JobRef} {j : Job} (found : s.jobFor ref = some j) :
    s.closeJob ref = { s with engine := s.engine.closing j }.releaseHeld j.heldLine := by
  simp only [State.closeJob, found, Engine.closing, Job.heldLine]
  cases j.step <;> rfl

theorem Engine.closing_queue (e : Engine) (j : Job) : (e.closing j).queue = e.queue := by
  simp only [Engine.closing]
  split <;> rfl

/-- No job is in progress once the one in progress is closed. -/
theorem Engine.closing_inProgress (e : Engine) (j : Job) : (e.closing j).inProgress = none := by
  simp only [Engine.closing]
  split <;> rfl

theorem Engine.closing_rest {e : Engine} {j : Job} (job : e.job = some j)
    (rest : (e.mode = .idle ↔ e.job = none) ∧ e.closedWaits) :
    ((e.closing j).mode = .idle ↔ (e.closing j).job = none) ∧ (e.closing j).closedWaits := by
  simp only [Engine.closing]
  split
  next => exact ⟨by simp, fun k hk => by cases hk⟩
  next st _ =>
    refine ⟨by simpa [job] using rest.1, fun k hk _ => ?_⟩
    obtain rfl := Option.some.inj hk
    exact ⟨st.discard, rfl, rfl⟩

/-- The references in progress after a closing: all but the one closed. -/
theorem State.closing_inProgress_iff {s : State} {ref : JobRef} {j : Job} (found : s.jobFor ref = some j) (other : JobRef) :
    (s.engine.closing j).inProgress = some other ↔ s.engine.inProgress = some other ∧ other ≠ ref := by
  have now : s.engine.inProgress = some ref := (s.jobFor_isSome ref).1 (by simp [found])
  simp only [Engine.closing_inProgress, now]
  simp only [reduceCtorEq, Option.some.injEq, false_iff, not_and, not_not]
  exact Eq.symm

/-! ### Moves abandoned (R86) -/

theorem abandonedSlot_some {e y : SlotEntry} (h : y ∈ abandonedSlot e) :
    e.current ≠ e.home.row ∧ y = { e with phase := .active } := by
  simp only [abandonedSlot, Option.mem_def, Option.ite_none_left_eq_some, Option.some.injEq] at h
  exact ⟨h.1, h.2.symm⟩

theorem abandonedSlot_rests (e : SlotEntry) :
    pendingIn (abandonedSlot e) = false ∧ copyingIn (abandonedSlot e) = false := by
  simp only [abandonedSlot]
  split <;> exact ⟨rfl, rfl⟩

/-- The slot of an abandoned move keeps its current location at most; the count of an abandoned copy is free. -/
theorem abandon_keeps {s : State} {i : SlotIx} {e : SlotEntry} (here : s.slots[i] = some e) (lost : Nat) {g : Engine}
    (jobs : s.JobsSound → State.JobsSound { s with
      slots := s.slots.set i (abandonedSlot { e with lost := lost }), engine := g }) :
    Keeps s { s with slots := s.slots.set i (abandonedSlot { e with lost := lost }), engine := g } := by
  refine fewerRows_keeps here (fun y hy => ?_) (fun {t taken} placed y hy => ?_) (fun y hy row held => ?_)
    (fun _ y hy => ?_) jobs
  all_goals obtain ⟨moved, rfl⟩ := abandonedSlot_some hy
  · rfl
  · obtain ⟨spared, current, -⟩ := placed
    exact ⟨spared, .inr (current.resolve_left fun home => moved home.1), by rintro _ ⟨⟩⟩
  · rcases held with held | held
    · exact .inl held
    · cases held
  · simp [SlotEntry.nextRow]

theorem abandonPending_keeps {s : State} {i : SlotIx} {e : SlotEntry} (here : s.slots[i] = some e)
    (idle : copyingIn (some e) = false) : Keeps s ((s.setSlot i (abandonedSlot e)).removeJob (.rowMove i)) := by
  refine abandon_keeps here e.lost (g := { s.engine with queue := s.engine.queue.erase (.rowMove i) }) fun h => ?_
  obtain ⟨pending, copying⟩ := abandonedSlot_rests e
  rw [State.jobsSound_iff_in] at h ⊢
  obtain ⟨tables, rest⟩ := h
  refine ⟨(tables.dropMove (i := i) fun j => ?_).congr (fun j => rfl) (fun j => ?_) fun j => rfl, rest⟩
  · rw [pendingIn_set]
    by_cases same : j = i <;> simp [same, pending]
  · rw [copyingIn_set]
    split
    next same => rw [same, copying, here, idle]
    next => rfl

theorem State.countReached_eq (s : State) (i : SlotIx) (e : SlotEntry) :
    ∃ lost, s.countReached i e = { e with lost := lost } := by
  simp only [State.countReached]
  split
  · exact ⟨e.lost, rfl⟩
  · exact ⟨_, rfl⟩

theorem abandonCopying_keeps {s : State} {i : SlotIx} {e : SlotEntry} (here : s.slots[i] = some e)
    (copies : copyingIn (some e) = true) :
    Keeps s ((s.setSlot i (abandonedSlot (s.countReached i e))).closeJob (.rowMove i)) := by
  obtain ⟨lost, count⟩ := s.countReached_eq i e
  rw [count]
  obtain ⟨pending, copying⟩ := abandonedSlot_rests { e with lost := lost }
  have now : s.JobsSound → s.engine.inProgress = some (.rowMove i) := fun h =>
    ((s.jobsSound_iff_in.1 h).1.move i).2 (by simpa only [here] using copies)
  cases found : (s.setSlot i (abandonedSlot { e with lost := lost })).jobFor (.rowMove i) with
  | none =>
    rw [State.closeJob_none _ _ found]
    refine abandon_keeps here lost (g := s.engine) fun h => ?_
    have := (s.jobFor_isSome (.rowMove i)).2 (now h)
    rw [show s.jobFor (.rowMove i) = none from found] at this
    cases this
  | some j =>
    rw [State.closeJob_eq_release found]
    have foundBefore : s.jobFor (.rowMove i) = some j := found
    obtain ⟨job, -, -⟩ := s.jobFor_eq_some.1 foundBefore
    refine .trans ?_ (releaseHeld_keeps _ _)
    refine abandon_keeps here lost (g := s.engine.closing j) fun h => ?_
    rw [State.jobsSound_iff_in] at h ⊢
    obtain ⟨tables, rest⟩ := h
    refine ⟨?_, Engine.closing_rest job rest⟩
    simp only [Engine.closing_queue]
    refine (tables.endMove (i := i) (State.closing_inProgress_iff foundBefore) fun j => ?_).congr (fun j => ?_) (fun j => rfl)
      fun j => rfl
    · rw [copyingIn_set]
      by_cases same : j = i <;> simp [same, copying]
    · rw [pendingIn_set]
      split
      next same =>
        obtain ⟨home, current, phase, cause, lost⟩ := e
        cases phase <;> simp_all [pendingIn, copyingIn, SlotEntry.isPending, SlotEntry.isCopying]
      next => rfl

/-! ### Retirement requests (R81 to R88) -/

theorem acceptRetire_keeps (s : State) (i : SlotIx) (r : PhysRow) (c : Cause) (a : Action) (spare : RowNo) :
    Keeps s (s.acceptRetire i r c a spare).1 :=
  (offer_keeps s _).trans (forgetRow_keeps _ r)

theorem refuseRetire_keeps (s : State) (fromPort : Bool) (r : PhysRow) (why : RetireReason) :
    Keeps s (s.refuseRetire fromPort r why).1 :=
  .ite (fun _ => .refl s) fun _ => offer_keeps s _

theorem retarget_keeps {s : State} {fromPort : Bool} {r : PhysRow} {i : SlotIx} {e : SlotEntry}
    (here : s.slots[i] = some e) (active : e.phase = .active) : Keeps s (s.retarget fromPort r i e).1 := by
  have rests : pendingIn s.slots[i] = false ∧ copyingIn s.slots[i] = false := by
    simp [here, pendingIn, copyingIn, SlotEntry.isPending, SlotEntry.isCopying, active]
  simp only [State.retarget, State.allocate_eq]
  cases spare : spareAt s.active e.home.rank s.cursors[cursorIx e.home.rank e.home.bank] with
  | none => exact refuseRetire_keeps s fromPort r .noSpare
  | some x =>
    exact (nextSpare_keeps here (.inl rfl) spare fun h => h.queueMove rfl rests.1 rests.2).trans (acceptRetire_keeps ..)

theorem replaceTarget_keeps {s : State} {fromPort : Bool} {r : PhysRow} {i : SlotIx} {e : SlotEntry}
    (here : s.slots[i] = some e) (next : e.nextRow = some r) : Keeps s (s.replaceTarget fromPort r i e).1 := by
  simp only [State.replaceTarget, State.allocate_eq]
  cases phase : e.phase with
  | active => simp [SlotEntry.nextRow, phase] at next
  | pending n =>
    have part : ∀ e' : SlotEntry, e'.isPending = true → pendingIn (some e') = pendingIn s.slots[i] := fun e' pending => by
      have was : e.isPending = true := by simp only [SlotEntry.isPending, phase]
      rw [here, pendingIn, pendingIn, Option.any_some, Option.any_some, pending, was]
    cases spare : spareAt s.active e.home.rank s.cursors[cursorIx e.home.rank e.home.bank] with
    | none =>
      exact (abandonPending_keeps here (by simp [copyingIn, SlotEntry.isCopying, phase])).trans (refuseRetire_keeps ..)
    | some x =>
      refine (nextSpare_keeps here (phase := .pending x) (.inl rfl) spare fun h => h.samePhase (part _ rfl) ?_).trans
        (acceptRetire_keeps ..)
      simp [here, copyingIn, SlotEntry.isCopying, phase]
  | copying n =>
    cases spare : spareAt s.active e.home.rank s.cursors[cursorIx e.home.rank e.home.bank] with
    | none =>
      exact (abandonCopying_keeps here (by simp [copyingIn, SlotEntry.isCopying, phase])).trans (refuseRetire_keeps ..)
    | some x =>
      refine ((nextSpare_keeps here (phase := .copying x) (.inr rfl) spare fun h => h.samePhase ?_ ?_).trans
        (restartJob_keeps ..)).trans (acceptRetire_keeps ..)
      · simp [here, pendingIn, SlotEntry.isPending, phase]
      · simp [here, copyingIn, SlotEntry.isCopying, phase]

theorem newRetirement_keeps {s : State} {fromPort : Bool} {c : Cause} {r : PhysRow} (apart : s.rowApart r) :
    Keeps s (s.newRetirement fromPort c r).1 := by
  simp only [State.newRetirement]
  split
  next spared =>
    split
    · exact refuseRetire_keeps ..
    next i free =>
      simp only [State.allocate_eq]
      cases spare : spareAt s.active r.rank s.cursors[cursorIx r.rank r.bank] with
      | none => exact refuseRetire_keeps ..
      | some x =>
        exact (newRetirement_slot_keeps apart spared (State.freeSlot_some free) spare).trans (acceptRetire_keeps ..)
  next => exact refuseRetire_keeps ..

theorem retire_keeps (s : State) (fromPort : Bool) (c : Cause) (r : PhysRow) : Keeps s (s.retire fromPort c r).1 := by
  simp only [State.retire]
  split
  · exact refuseRetire_keeps ..
  next part =>
    obtain ⟨here, -⟩ := State.partOf_current part
    split
    next active => exact retarget_keeps here active
    next => exact .refl s
  next part =>
    obtain ⟨here, next⟩ := State.partOf_next part
    exact replaceTarget_keeps here next
  next part => exact newRetirement_keeps (State.rowApart_of_partOf part)

theorem retireInternal_keeps (s : State) (c : Cause) (r : PhysRow) : Keeps s (s.retireInternal c r) :=
  retire_keeps s false c r

theorem retireNoCopy_keeps (s : State) (r : PhysRow) : Keeps s (s.retireNoCopy r) := by
  refine .ite (fun _ => respond_keeps ..) fun _ => .ite (fun _ => respond_keeps ..) fun _ => ?_
  split
  · exact respond_keeps ..
  next i e part =>
    obtain ⟨here, -⟩ := State.partOf_current part
    split
    next active =>
      simp only [State.retargetNoCopy, State.allocate_eq]
      cases spare : spareAt s.active e.home.rank s.cursors[cursorIx e.home.rank e.home.bank] with
      | none => exact respond_keeps ..
      | some x => exact ((currentSpare_keeps here active spare).trans (acceptRetire_keeps ..)).trans (respond_keeps ..)
    next => exact respond_keeps ..
  · exact respond_keeps ..
  next part =>
    have apart := State.rowApart_of_partOf part
    simp only [State.newNoCopy]
    split
    next spared =>
      split
      · exact respond_keeps ..
      next i free =>
        simp only [State.allocate_eq]
        cases spare : spareAt s.active r.rank s.cursors[cursorIx r.rank r.bank] with
        | none => exact respond_keeps ..
        | some x =>
          exact ((newNoCopy_slot_keeps apart spared (State.freeSlot_some free) spare).trans
            (acceptRetire_keeps ..)).trans (respond_keeps ..)
    next => exact respond_keeps ..

theorem answerRetire_keeps (r : State × RetireAnswer) : Keeps r.1 (answerRetire r) := by
  simp only [answerRetire]
  split <;> exact respond_keeps ..

theorem retireRow_keeps (s : State) (rank bank : Byte) (row : BitVec 16) (flag : Byte) :
    Keeps s (s.retireRow rank bank row flag) := by
  simp only [State.retireRow]
  split
  · exact (retire_keeps s true .management _).trans (answerRetire_keeps _)
  · exact retireNoCopy_keeps s _
  · exact respond_keeps ..

/-! ### Corrected reports (R138, R139) -/

theorem correctedReport_keeps (s : State) (r : PhysRow) (i : RegionIx) : Keeps s (s.correctedReport r i) := by
  refine .ite (fun _ => ?_) fun _ => .refl s
  split
  next e found =>
    refine .ite (fun _ => (forgetRow_keeps s r).trans (retireInternal_keeps ..)) fun _ => ?_
    refine .of_tracker _ fun h => trackerSound.recount h _ ?_ (Nat.min_le_left _ _)
    omega
  next apart =>
    refine .ite (fun _ => retireInternal_keeps ..) fun _ => .of_tracker _ fun h => trackerSound.join h rfl fun x hx => ?_
    simpa using List.find?_eq_none.1 apart x hx

/-! ### Slots released and lines lost (R90, R95) -/

theorem releaseSlot_keeps (s : State) (slot : Byte) : Keeps s (s.releaseSlot slot) := by
  simp only [State.releaseSlot]
  split
  · exact respond_keeps ..
  next i _ =>
    refine .ite (fun _ => respond_keeps ..) fun _ => .ite (fun _ => respond_keeps ..) fun _ => ?_
    split
    next here =>
      refine .trans ?_ (respond_keeps ..)
      exact fewerRows_keeps here (e' := none) (g := s.engine) (by simp) (fun _ => by simp) (by simp) (fun _ => by simp)
        fun h => h.samePhase (by rw [here]; rfl) (by rw [here]; rfl)
    next => exact respond_keeps ..

theorem slotLost_keeps {s : State} {i : SlotIx} {e : SlotEntry} (here : s.slots[i] = some e) (lost : Nat) :
    Keeps s (s.setSlot i (some { e with lost := lost })) := by
  refine fewerRows_keeps here (g := s.engine) (by rintro _ ⟨⟩; rfl) (fun placed => by rintro _ ⟨⟩; exact placed)
    (by rintro _ ⟨⟩ row held; exact held) (fun own => by rintro _ ⟨⟩; exact own) fun h => h.samePhase ?_ ?_
  · rw [here]
    rfl
  · rw [here]
    rfl

/-! ### Mirror records (R117, R118, R120, R121, R122) -/

/-- A record whose state plays the same part in the jobs. -/
theorem State.JobsSound.sameMirror {s : State} (h : s.JobsSound) {i : RegionIx} {m : Option MirrorRecord}
    (same : rebuildingIn m = rebuildingIn s.mirrors[i]) : State.JobsSound { s with mirrors := s.mirrors.set i m } := by
  rw [State.jobsSound_iff_in] at h ⊢
  obtain ⟨tables, rest⟩ := h
  refine ⟨tables.congr (fun j => rfl) (fun j => rfl) fun j => ?_, rest⟩
  rw [rebuildingIn_set]
  split
  next here => rw [here, same]
  next => rfl

theorem MirrorRecord.raise_le {m : MirrorRecord} (x : Side) (h : m.primaryCount ≤ 4 ∧ m.shadowCount ≤ 4) :
    (m.raise x).primaryCount ≤ 4 ∧ (m.raise x).shadowCount ≤ 4 := by
  cases x
  · exact ⟨Nat.min_le_left _ _, h.2⟩
  · exact ⟨h.1, Nat.min_le_left _ _⟩

theorem MirrorRecord.raise_state (m : MirrorRecord) (x : Side) : (m.raise x).state = m.state := by cases x <;> rfl

theorem sideReport_keeps (s : State) (i : RegionIx) (x : Side) (born : Nat) : Keeps s (s.sideReport i x born) := by
  rcases s.sideReport_cases i x born with same | ⟨m, here, -, raised | ⟨duplex, failed⟩⟩
  · rw [same]
    exact .refl s
  · rw [raised]
    refine .of_mirror here s.engine (MirrorRecord.raise_le x) fun h => h.sameMirror ?_
    simp [here, rebuildingIn, MirrorRecord.raise_state]
  · rw [failed]
    refine .trans (.of_mirror here s.engine (m' := { m.raise x with state := simplexOf x.other }) (MirrorRecord.raise_le x)
      fun h => h.sameMirror ?_) (offer_keeps _ _)
    cases x <;> simp [here, rebuildingIn, duplex, simplexOf, Side.other, MirrorState.rebuilding]

end Sys2Proof.Machine
end

section
/-! PROOFS. What the move engine, patrol, the resets and the commit keep, and every command (chapters 6, 8, 9, 2). -/

namespace Sys2Proof.Machine

/-! ### Jobs begun and line steps (R101 to R106) -/

section
variable {s : State} {rest : List JobRef}

/-- An IDLE engine has no job. -/
theorem State.JobsSound.noJob (h : s.JobsSound) (idle : s.engine.mode = .idle) :
    s.engine.job = none ∧ s.engine.inProgress = none := by
  have none_held := (s.jobsSound_iff_in.1 h).2.1.1 idle
  exact ⟨none_held, by rw [Engine.inProgress, none_held]; rfl⟩

theorem startRowMove_keeps {i : SlotIx} (idle : s.engine.mode = .idle) (head : s.engine.queue = .rowMove i :: rest) :
    Keeps s (s.startRowMove i rest) := by
  simp only [State.startRowMove]
  split
  next home current n cause lost here =>
    refine fewerRows_keeps here (e' := some { home := home, current := current, phase := .copying n, cause := cause, lost := lost })
      (by rintro _ ⟨⟩; rfl) (fun placed => ?_) (by rintro _ ⟨⟩ row held; exact held)
      (fun own => by rintro _ ⟨⟩; exact own) fun h => ?_
    · rintro _ ⟨⟩
      exact ⟨placed.1, placed.2.1.imp (fun x => ⟨x.1, by simp⟩) id, placed.2.2⟩
    · obtain ⟨-, now⟩ := h.noJob idle
      rw [State.jobsSound_iff_in] at h ⊢
      obtain ⟨tables, -⟩ := h
      refine ⟨tables.beginMove head now (fun j => ?_) (fun j => ?_), by simp, fun k hk closed => ?_⟩
      · rw [pendingIn_set]
        by_cases same : j = i <;> simp [same, pendingIn, SlotEntry.isPending]
      · rw [copyingIn_set]
        by_cases same : j = i <;> simp [same, copyingIn, SlotEntry.isCopying]
      · obtain rfl := Option.some.inj hk
        cases closed
  next => exact .refl s

theorem startResync_keeps {i : RegionIx} (idle : s.engine.mode = .idle) (head : s.engine.queue = .resync i :: rest) :
    Keeps s (s.startResync i rest) := by
  simp only [State.startResync]
  split
  · exact .refl s
  · split
    · exact .refl s
    · refine .of_engine _ fun h => ?_
      obtain ⟨-, now⟩ := h.noJob idle
      rw [State.jobsSound_iff_in] at h ⊢
      refine ⟨h.1.beginResync head now, by simp, fun k hk closed => ?_⟩
      obtain rfl := Option.some.inj hk
      cases closed

end

theorem startJob_keeps (s : State) : Keeps s s.startJob := by
  refine .ite (fun guard => ?_) fun _ => .refl s
  split
  · exact .refl s
  next head => exact startRowMove_keeps guard.1 head
  next head => exact startResync_keeps guard.1 head

theorem beginStep_keeps (s : State) : Keeps s s.beginStep := by
  refine .ite (fun _ => ?_) fun _ => .refl s
  split
  · exact .refl s
  next j job =>
    refine .ite (fun free => ?_) fun _ => .refl s
    split
    · exact .refl s
    next la source target _ =>
      refine .ite (fun _ => .refl s) fun _ => (place_keeps s { kind := .moveRead, la := la, loc := source } rfl).trans ?_
      refine step_keeps (s := s.place _) job (f := fun j => { j with step := some _ }) rfl rfl ?_
      intro st hst
      rw [free.1] at hst
      cases hst

theorem countSlot_keeps (s : State) (i : SlotIx) :
    Keeps s (match s.slots[i] with | none => s | some e => s.setSlot i (some { e with lost := e.lost + 1 })) := by
  split
  · exact .refl s
  next here => exact slotLost_keeps here _

theorem loseLine_keeps {s : State} {j : Job} {st : LineStep} (job : s.engine.job = some j) :
    Keeps s (s.loseLine j st) := by
  have counted : Keeps s { s with engine := { s.engine with
      job := some { j with lost := j.lost + 1, step := j.step.map fun (x : LineStep) => { x with lost := true } } } } := by
    refine step_keeps job (f := fun j => { j with lost := j.lost + 1,
                                                  step := j.step.map fun (x : LineStep) => { x with lost := true } }) rfl rfl ?_
    intro x hx discarded
    exact ⟨{ x with lost := true }, by simp [Option.mem_def.1 hx], discarded⟩
  simp only [State.loseLine]
  refine counted.trans ?_
  split
  next i _ =>
    exact (countSlot_keeps _ i).trans (offer_keeps _ (.uncorrectable .copy st.source))
  · refine (offer_keeps _ (.uncorrectable .resync st.source)).trans ?_
    split
    · exact .refl _
    · exact sideReport_keeps ..
  · exact offer_keeps _ _

theorem moveReadDone_keeps (s : State) (rd : Reading) : Keeps s (s.moveReadDone rd) := by
  simp only [State.moveReadDone]
  split
  · exact .refl s
  next j job =>
    split
    · exact .refl s
    next st step =>
      have written : Keeps s { s.place { kind := .targetWrite rd.form, la := st.la, loc := st.target } with
          engine := { s.engine with job := some { j with step := some { st with phase := .writing } } } } := by
        refine (place_keeps s { kind := .targetWrite rd.form, la := st.la, loc := st.target } rfl).trans
          (step_keeps (s := s.place _) job (f := fun j => { j with step := some { st with phase := .writing } }) rfl rfl ?_)
        intro x hx discarded
        obtain rfl : x = st := Option.some.inj (hx.symm.trans step)
        exact ⟨{ x with phase := .writing }, rfl, discarded⟩
      split
      · exact written.trans (loseLine_keeps rfl)
      · exact written

/-! ### Jobs ended (R91, R106, R108, R122) -/

section
variable {s : State} {j : Job} (job : s.engine.job = some j)
include job

/-- With its job dropped, the engine has the same references in progress but for that one's. -/
theorem dropped_inProgress (running : j.closed = false) (ref : JobRef) :
    (none : Option JobRef) = some ref ↔ s.engine.inProgress = some ref ∧ ref ≠ j.ref := by
  simp only [reduceCtorEq, Engine.inProgress, job, Option.bind_some, running, Bool.false_eq_true, if_false,
    Option.some.injEq, false_iff, not_and, not_not]
  exact Eq.symm

theorem completeRowMove_keeps {i : SlotIx} (ref : j.ref = .rowMove i) (running : s.JobsSound → j.closed = false) :
    Keeps s (State.rowMoveDone { s with engine := { s.engine with mode := .idle, job := none } } i) := by
  have copies : s.JobsSound → copyingIn s.slots[i] = true := fun h => by
    refine ((s.jobsSound_iff_in.1 h).1.move i).1 ?_
    simp [Engine.inProgress, job, running h, ref]
  have untouched : copyingIn s.slots[i] = false → Keeps s { s with engine := { s.engine with mode := .idle, job := none } } :=
    fun idle => .of_engine _ fun h => absurd (copies h) (by rw [idle]; exact Bool.false_ne_true)
  simp only [State.rowMoveDone]
  split
  next free => exact untouched (by rw [show s.slots[i] = none from free]; rfl)
  next e here =>
    have here : s.slots[i] = some e := here
    split
    next n phase =>
      refine .trans ?_ (offer_keeps _ _)
      refine fewerRows_keeps here (e' := some { e with current := n, phase := .active })
        (by rintro _ ⟨⟩; rfl) (fun placed => ?_) ?_ (fun _ => by rintro _ ⟨⟩; simp [SlotEntry.nextRow]) fun h => ?_
      · rintro _ ⟨⟩
        refine ⟨placed.1, .inr ?_, by rintro _ ⟨⟩⟩
        exact placed.2.2 { e.home with row := n } (by simp only [SlotEntry.nextRow, phase]; rfl)
      · rintro _ ⟨⟩ row (held | held)
        · refine .inr ?_
          simp only [SlotEntry.nextRow, phase]
          exact congrArg some held
        · cases held
      · have open' := running h
        rw [State.jobsSound_iff_in] at h ⊢
        refine ⟨(h.1.endMove (i := i) (now' := none) (fun x => ?_) fun k => ?_).congr (fun k => ?_) (fun k => rfl) fun k => rfl,
          by simp, fun k hk => by cases hk⟩
        · rw [dropped_inProgress job open', ref]
        · rw [copyingIn_set]
          by_cases same : k = i <;> simp [same, copyingIn, SlotEntry.isCopying]
        · rw [pendingIn_set]
          split
          next same => simp [same, pendingIn, SlotEntry.isPending, -Fin.getElem_fin, here, phase]
          next => rfl
    next other =>
      refine untouched ?_
      obtain ⟨home, current, phase, cause, lost⟩ := e
      rw [here]
      cases phase with
      | copying n => exact absurd rfl (other n)
      | pending n => rfl
      | active => rfl

theorem completeResync_keeps {i : RegionIx} {lost : Nat} (ref : j.ref = .resync i) (running : s.JobsSound → j.closed = false) :
    Keeps s (State.resyncDone { s with engine := { s.engine with mode := .idle, job := none } } i lost) := by
  have now : s.JobsSound → s.engine.inProgress = some (.resync i) := fun h => by
    simp [Engine.inProgress, job, running h, ref]
  refine .trans ?_ (offer_keeps _ _)
  split
  next missing =>
    refine .of_engine _ fun h => ?_
    have := ((s.jobsSound_iff_in.1 h).1.resyncs i).1 (.inr (now h))
    rw [show s.mirrors[i] = none from missing] at this
    cases this
  next m here =>
    have here : s.mirrors[i] = some m := here
    refine .of_mirror (s := s) here { s.engine with mode := .idle, job := none }
      (m' := { m with state := .duplex, primaryCount := 0, shadowCount := 0 })
      (fun _ => ⟨Nat.zero_le _, Nat.zero_le _⟩) fun h => ?_
    have open' := running h
    have unqueued := (s.jobsSound_iff_in.1 h).1.resync i (now h)
    rw [State.jobsSound_iff_in] at h ⊢
    refine ⟨?_, by simp, fun k hk => by cases hk⟩
    have dropped := h.1.dropResync (i := i) (now' := none)
      (r' := fun n => rebuildingIn (s.mirrors.set i (some { m with state := .duplex, primaryCount := 0, shadowCount := 0 }))[n])
      (fun x => ?_) fun n => ?_
    · rw [List.erase_of_not_mem unqueued] at dropped
      exact dropped
    · rw [dropped_inProgress job open', ref]
    · rw [rebuildingIn_set]
      by_cases same : n = i <;> simp [same, rebuildingIn, MirrorState.rebuilding]

theorem completeJob_keeps (running : s.JobsSound → j.closed = false) : Keeps s (s.completeJob j) := by
  simp only [State.completeJob]
  split
  next ref => exact completeRowMove_keeps job ref running
  next ref => exact completeResync_keeps job ref running

end

theorem endStep_keeps (s : State) : Keeps s s.endStep := by
  have mode : s.modeAfterStep ≠ .idle := by
    simp only [State.modeAfterStep]
    split <;> simp
  have onward : ∀ (j : Job) (p : Nat), s.engine.job = some j → (s.JobsSound → j.closed = false) →
      Keeps s { s with engine := { s.engine with mode := s.modeAfterStep, job := some { j with p := p, step := none } } } := by
    intro j p job running
    refine .of_engine _ fun h => ?_
    have open' := running h
    rw [State.jobsSound_iff_in] at h ⊢
    obtain ⟨tables, -⟩ := h
    refine ⟨?_, by simp [mode], fun k hk closed => ?_⟩
    · simpa [Engine.inProgress, job] using tables
    · obtain rfl := Option.some.inj hk
      simp [open'] at closed
  simp only [State.endStep]
  split
  · exact .refl s
  next j job =>
    split
    · exact .refl s
    next st step =>
      split
      next =>
        refine .ite (fun closed => ?_) fun running => onward j j.p job fun _ => by simpa using running
        refine engine_keeps rfl ?_ (by simp) fun _ k hk => by cases hk
        simp [Engine.inProgress, job, closed]
      next kept =>
        have running : s.JobsSound → j.closed = false := fun h => by
          by_contra closed
          obtain ⟨x, hx, discarded⟩ := (s.jobsSound_iff_in.1 h).2.2 j job (by simpa using closed)
          obtain rfl : x = st := Option.some.inj (hx.symm.trans step)
          exact kept discarded
        split
        · exact (completeJob_keeps job running).trans (releaseHeld_keeps _ _)
        · exact (onward j _ job running).trans (releaseHeld_keeps _ _)

/-! ### Completions of reads (R65, R66, R72, R73, R134, R135) -/

theorem reportRead_keeps (s : State) (merge : Bool) (cls : RouteClass) (l : Loc) (o : ReadOutcome) :
    Keeps s (s.reportRead merge cls l o) := by
  simp only [State.reportRead]
  split
  · exact .refl s
  · exact .refl s
  · split
    · exact correctedReport_keeps ..
    · exact .refl s
  · refine (offer_keeps s (.uncorrectable (requestSource merge) l)).trans ?_
    split
    · exact retireInternal_keeps ..
    · exact sideReport_keeps ..
    · exact .refl _
    · exact .refl _

theorem requestReadDone_keeps (s : State) (merge : Bool) (tag : Tag) (cls : RouteClass) (la : LineAddr) (l : Loc)
    (rd : Reading) : Keeps s (s.requestReadDone merge tag cls la l rd) := by
  refine (reportRead_keeps s merge cls l rd.outcome).trans ?_
  simp only [State.requestReadDone]
  split
  next i m _ =>
    exact (place_keeps _ { kind := .failoverRead tag merge i m.born, la := la, loc := sideLoc .shadow la } rfl).trans
      (onCounters_keeps _ _)
  next => exact answer_keeps ..

theorem failoverDone_keeps (s : State) (tag : Tag) (merge : Bool) (i : RegionIx) (born : Nat) (la : LineAddr) (l : Loc)
    (superseded : Bool) (rd : Reading) : Keeps s (s.failoverDone tag merge i born la l superseded rd) := by
  simp only [State.failoverDone]
  split
  · exact (formRepair_keeps ..).trans (answer_keeps ..)
  · exact (formRepair_keeps ..).trans (answer_keeps ..)
  · exact ((offer_keeps s _).trans (sideReport_keeps ..)).trans (answer_keeps ..)
  · exact answer_keeps ..

theorem patrolDone_keeps (s : State) : Keeps s s.patrolDone := .aside s ..

theorem patrolMore_keeps (s : State) : Keeps s s.patrolMore := .aside s ..

theorem onPatrolStep_keeps (s : State) (f : PatrolStep → PatrolStep) : Keeps s (s.onPatrolStep f) := .aside s ..

theorem formScrub_keeps (s : State) (la : LineAddr) (l : Loc) (data : LineData) (mark : Bool) :
    Keeps s (s.formScrub la l data mark) := by
  refine (patrolMore_keeps s).trans ?_
  simp only [State.formScrub]
  split
  · exact onPatrolStep_keeps _ _
  next free =>
    refine .of_ranks _ fun h => ranksSound.place h (by simp [OpKind.isRepair]) fun _ => noScrubs_of_scrubPlaced ?_
    simpa using free

theorem patrolSide_keeps (s : State) (i : RegionIx) (side : Side) (born : Nat) (la : LineAddr) (l : Loc) (mark : Bool)
    (rd : Reading) : Keeps s (s.patrolSide i side born la l mark rd) := by
  simp only [State.patrolSide]
  split
  · exact .refl s
  · exact .refl s
  · exact formScrub_keeps ..
  · exact (offer_keeps s _).trans (sideReport_keeps ..)

theorem patrolSingle_keeps (s : State) (p : PatrolStep) (la : LineAddr) (l : Loc) (mark : Bool) (rd : Reading) :
    Keeps s (s.patrolSingle p la l mark rd) := by
  simp only [State.patrolSingle]
  split
  · split
    · exact .refl s
    · exact .refl s
    · exact formScrub_keeps ..
    · exact offer_keeps s _
  · split
    · exact .refl s
    · exact .refl s
    · exact (formScrub_keeps ..).trans (correctedReport_keeps ..)
    · exact (offer_keeps s _).trans (retireInternal_keeps ..)
  · exact patrolSide_keeps ..
  · exact .refl s

theorem patrolRepair_keeps (s : State) (la : LineAddr) (i : RegionIx) (side : Side) (data : LineData) (mark : Bool) :
    Keeps s (s.patrolRepair la i side data mark) :=
  (formRepair_keeps s la i side data mark true).trans (.ite (fun _ => patrolMore_keeps _) fun _ => .refl _)

theorem pairRepair_keeps (s : State) (p : PatrolStep) (born : Nat) (mark : Bool) (rd : Reading) :
    Keeps s (s.pairRepair p born mark rd) := by
  simp only [State.pairRepair]
  split
  · exact .refl s
  · exact .ite (fun _ => .ite (fun _ => patrolRepair_keeps ..) fun _ => .ite (fun _ => patrolRepair_keeps ..) fun _ => .refl s)
      fun _ => .refl s

theorem pairFirst_keeps (s : State) (p : PatrolStep) (born : Nat) (la : LineAddr) (l : Loc) (mark : Bool) (rd : Reading) :
    Keeps s (s.pairFirst p born la l mark rd) :=
  (((patrolSide_keeps s p.region .primary born la l mark rd).trans (onPatrolStep_keeps _ _)).trans
    (place_keeps _ { kind := .patrolRead .shadow, la := la, loc := sideLoc .shadow la } rfl)).trans (patrolMore_keeps _)

theorem patrolReadDone_keeps (s : State) (turn : PatrolTurn) (la : LineAddr) (l : Loc) (mark : Bool) (rd : Reading) :
    Keeps s (s.patrolReadDone turn la l mark rd) := by
  simp only [State.patrolReadDone]
  split
  · exact .refl s
  next p _ =>
    refine .trans ?_ (patrolDone_keeps _)
    split
    · exact pairFirst_keeps ..
    · exact (patrolSide_keeps ..).trans (pairRepair_keeps ..)
    · exact patrolSingle_keeps ..

/-! ### The patrol cursor (R130, R131, R140) -/

theorem endPass_keeps (s : State) : Keeps s s.endPass :=
  (((Keeps.of_tracker (s := s) (decay s.tracker) trackerSound.decay).trans
    (.aside { s with tracker := decay s.tracker } { s.patrol with pass := s.patrol.pass + 1 } _ _ _ _
      { s.counters with passes := satInc s.counters.passes } _ _ _ _)).trans (offer_keeps _ _))

theorem startPatrol_keeps (s : State) (i : RegionIx) (q : Nat) : Keeps s (s.startPatrol i q) := by
  simp only [State.startPatrol]
  split
  · exact .refl s
  next treat turn l _ =>
    exact (place_keeps s { kind := .patrolRead turn, la := (s.active[i]).lineAt q, loc := l } rfl).trans (.aside (s.place _) ..)

theorem chooseAt_keeps (s : State) (i : RegionIx) (q : Nat) : Keeps s (s.chooseAt i q) := by
  simp only [State.chooseAt]
  refine .trans (.trans (t := if (s.advance i q).2 then s.endPass else s) (.ite (fun _ => endPass_keeps s) fun _ => .refl s) ?_)
    (startPatrol_keeps _ i q)
  exact .aside _ ..

theorem patrolExpiry_keeps (s : State) : Keeps s s.patrolExpiry := by
  refine .ite (fun _ => .refl s) fun _ => .ite (fun _ => onCounters_keeps s _) fun _ => ?_
  split
  · exact .refl s
  next i q _ =>
    simp only [State.takeExpiry]
    split
    · exact chooseAt_keeps ..
    · refine (endPass_keeps s).trans ?_
      split
      · exact chooseAt_keeps ..
      · exact .aside s.endPass ..

end Sys2Proof.Machine
end

section
/-! PROOFS. What quiesce, the two resets and their releases keep (chapter 9, R12, R98, R152). -/

namespace Sys2Proof.Machine

/-! ### RUN and DRAINING (R109, R110, R149) -/

theorem Engine.resume_idle (e : Engine) : e.resume.mode = .idle ↔ e.mode = .idle := by
  simp only [Engine.resume]
  split
  next paused => simp [paused]
  next => exact Iff.rfl

theorem Engine.pause_idle (e : Engine) : e.pause.mode = .idle ↔ e.mode = .idle := by
  simp only [Engine.pause]
  split
  next running => simp [running.1]
  next => exact Iff.rfl

theorem resume_keeps (s : State) : Keeps s { s with engine := s.engine.resume } := by
  have job : s.engine.resume.job = s.engine.job := by rw [Engine.resume_eq]
  refine engine_keeps (by rw [Engine.resume_eq]) (by simp only [Engine.inProgress, job]) (fun idle => ?_) fun waits => ?_
  · rw [Engine.resume_idle, job, idle]
  · simpa only [Engine.closedWaits, job] using waits

theorem pause_keeps (s : State) : Keeps s { s with engine := s.engine.pause } := by
  have job : s.engine.pause.job = s.engine.job := by rw [Engine.pause_eq]
  refine engine_keeps (by rw [Engine.pause_eq]) (by simp only [Engine.inProgress, job]) (fun idle => ?_) fun waits => ?_
  · rw [Engine.pause_idle, job, idle]
  · simpa only [Engine.closedWaits, job] using waits

theorem enterRun_keeps (s : State) : Keeps s s.enterRun :=
  ((resume_keeps s).trans (.aside { s with engine := s.engine.resume } _ .run ..)).trans (startCredits_keeps _)

theorem enterDraining_keeps (s : State) : Keeps s s.enterDraining :=
  (pause_keeps s).trans (.aside { s with engine := s.engine.pause } _ .draining ..)

theorem enterByRequest_keeps (s : State) : Keeps s s.enterByRequest :=
  .ite (fun _ => enterDraining_keeps s) fun _ => enterRun_keeps s

/-! ### The rank-wide operations (R148, R150, R151) -/

theorem placeWides_keeps (s : State) (w : WideOp) : Keeps s (s.onRanks (RankSched.placeWide w)) :=
  onRanks_keeps s _ fun k r => r.placeWide_noWorse k w

theorem enterWaking_keeps (s : State) : Keeps s s.enterWaking :=
  (placeWides_keeps s .exit).trans (.aside (s.onRanks _) ..)

theorem requestQuiet_keeps (s : State) : Keeps s s.requestQuiet :=
  (Keeps.aside s _ _ true ..).trans (.ite (fun _ => enterDraining_keeps _) fun _ => .refl _)

theorem withdrawQuiet_keeps (s : State) : Keeps s s.withdrawQuiet := by
  refine (Keeps.aside s _ _ false ..).trans (.ite (fun _ => .refl _) fun _ => ?_)
  split
  · exact enterRun_keeps _
  · exact enterWaking_keeps _
  all_goals exact .refl _

theorem completeDrain_keeps (s : State) : Keeps s s.completeDrain :=
  .ite (fun _ => (placeWides_keeps s .entry).trans (.aside (s.onRanks _) ..)) fun _ => .refl s

theorem afterEntry_keeps (s : State) (k : RankNo) : Keeps s (s.afterEntry k) := by
  simp only [State.afterEntry]
  split
  · exact .ite (fun _ => .ite (fun _ => .aside s ..) fun _ => enterWaking_keeps s) fun _ => .refl s
  · exact onRank_keeps s k _ (RankSched.placeWide_noWorse k _ .exit)
  all_goals exact .refl s

theorem entryDone_keeps (s : State) (k : RankNo) : Keeps s (s.entryDone k) := by
  refine .ite (fun _ => ?_) fun _ => .refl s
  exact (onRank_keeps s k _ (RankSched.noWorse_of_counts (fun sound => ⟨sound.1, sound.2.1⟩) rfl rfl)).trans
    (.ite (fun _ => .refl _) fun _ => afterEntry_keeps _ k)

theorem exitDone_keeps (s : State) (k : RankNo) : Keeps s (s.exitDone k) := by
  refine .ite (fun _ => ?_) fun _ => .refl s
  exact (onRank_keeps s k _ (RankSched.noWorse_of_counts (fun sound => ⟨Nat.zero_le _, sound.2.1⟩) rfl rfl)).trans
    (.ite (fun _ => enterByRequest_keeps _) fun _ => .refl _)

theorem initDone_keeps (s : State) (k : RankNo) : Keeps s (s.initDone k) := by
  refine .ite (fun _ => ?_) fun _ => .refl s
  exact (onRank_keeps s k _ (RankSched.noWorse_of_counts (fun sound => ⟨sound.1, sound.2.1⟩) rfl rfl)).trans
    (.ite (fun _ => enterByRequest_keeps _) fun _ => .refl _)

/-! ### Power-on reset (R12, R75, R137) -/

theorem RankSched.abandoned_bank (r : RankSched) (b : BankNo) : r.abandoned[b] = (r.banks[b]).map LineOp.abandon :=
  getElem_mapV ..

/-- The operations that a reset leaves on a rank's banks are on that rank and those banks as they were. -/
theorem RankSched.abandoned_banks {k : RankNo} {r : RankSched} (h : r.Sound k) (b : BankNo) (o : LineOp)
    (ho : o ∈ r.abandoned[b]) : o.loc.rank = k ∧ o.loc.bank = b := by
  rw [r.abandoned_bank b] at ho
  obtain ⟨x, hx, rfl⟩ := Option.mem_map.1 ho
  exact h.2.2.2.2 b x hx

theorem RankSched.powerOn_noWorse (k : RankNo) (r : RankSched) : r.NoWorse k r.powerOn :=
  noWorse_of_gist (fun _ => ⟨Nat.zero_le _, Nat.zero_le _⟩) (List.nil_sublist _) RankSched.abandoned_banks

theorem reset_log_sound : State.reset.log.Sound := EventLog.Sound.reset

theorem reset_regionsSound : State.reset.RegionsSound := by
  have entry (i : RegionIx) : (State.reset.active[i] : RegionEntry) = .reset ∧ (State.reset.staged[i] : RegionEntry) = .reset
      ∧ State.reset.mirrors[i] = none := by
    simp [State.reset]
  have invalid : RegionEntry.reset.valid = false := rfl
  refine ⟨⟨fun i => ?_, fun i j valid => ?_⟩, fun i => ?_, fun i => ?_, fun i m hm => ?_⟩
  · rw [(entry i).1]
    simp [RegionEntry.InRange, invalid]
  · rw [(entry i).1, invalid] at valid
    cases valid
  · rw [(entry i).1, (entry i).2.1]
    simp [RegionEntry.Normal, RegionEntry.reset]
  · rw [(entry i).1, (entry i).2.2, invalid]
    rfl
  · rw [(entry i).2.2] at hm
    cases hm

theorem reset_slot (i : SlotIx) : State.reset.slots[i] = none := by simp [State.reset]

theorem reset_homesApart : State.reset.HomesApart := by
  intro i j e he
  rw [reset_slot] at he
  cases he

theorem reset_sparesSound : State.reset.SparesSound := by
  refine ⟨fun k b => ?_, fun i e he => ?_, fun i j e he => ?_⟩
  · simp [State.reset]
  all_goals
    rw [reset_slot] at he
    cases he

theorem reset_jobsSound : State.reset.JobsSound := by
  rw [State.jobsSound_iff_in]
  refine ⟨⟨List.nodup_nil, fun i => ?_, fun i => ?_, fun i => ?_, fun i => ?_⟩, by simp [State.reset], ?_⟩
  · simp [pendingIn, State.reset]
  · simp [copyingIn, Engine.inProgress, State.reset]
  · simp [rebuildingIn, Engine.inProgress, State.reset]
  · simp [Engine.inProgress, State.reset]
  · simp [Engine.closedWaits, State.reset]

theorem powerOn_keeps (s : State) (straps : BitVec 2) : Keeps s (s.powerOn straps) where
  pending := rfl
  store := fun _ => Store.wf_reset
  log := fun _ => reset_log_sound
  front := fun _ => FrontLink.Sound.reset
  ranks := fun h => ranksSound.map h RankSched.powerOn_noWorse
  tracker := fun _ => trackerSound.nil
  regions := fun _ => reset_regionsSound
  homes := fun _ => reset_homesApart
  spares := fun _ _ _ => reset_sparesSound
  jobs := fun _ => reset_jobsSound

/-! ### Warm reset (R98, R152) -/

theorem regionIxs_eq_finRange : regionIxs = List.finRange 8 := by decide

theorem map_filter_present {α β γ : Type} (l : List α) (g : α → Option β) (p : β → Bool) (f : α → γ) :
    ((l.filterMap fun i => (g i).map fun e => (i, e)).filter fun x => p x.2).map (fun x => f x.1)
      = (l.filter fun i => (g i).any p).map f := by
  induction l with
  | nil => rfl
  | cons i is ih =>
    cases here : g i with
    | none => simpa [here] using ih
    | some e =>
      cases test : p e
      · simpa [here, test] using ih
      · simpa [here, test] using ih

/-- The job queue rebuilt holds the PENDING slots and the rebuilding regions, each kind in ascending order. -/
theorem State.rebuiltQueue_eq (s : State) :
    s.rebuiltQueue =
      ((List.finRange 64).filter s.slotPending).map .rowMove ++ ((List.finRange 8).filter s.regionRebuilding).map .resync := by
  refine congrArg₂ (· ++ ·) ?_ ?_
  · rw [s.slotPending_eq]
    exact map_filter_present slotIxs (fun i => s.slots[i]) SlotEntry.isPending JobRef.rowMove
  · rw [s.regionRebuilding_eq, ← regionIxs_eq_finRange]
    refine congrArg (fun test => (regionIxs.filter test).map JobRef.resync) (funext fun i => ?_)
    simp only [rebuildingIn]
    cases s.mirrors[i] <;> rfl

theorem State.rebuiltQueue_tables (s : State) (idle : ∀ i, s.slotCopying i = false) :
    JobTables s.rebuiltQueue none s.slotPending s.slotCopying s.regionRebuilding := by
  rw [s.rebuiltQueue_eq]
  refine ⟨?_, fun i => by simp, fun i => by simp [idle], fun i => by simp, fun i => by simp⟩
  refine List.nodup_append.2 ⟨?_, ?_, ?_⟩
  · exact ((List.nodup_finRange 64).filter _).map fun _ _ => JobRef.rowMove.inj
  · exact ((List.nodup_finRange 8).filter _).map fun _ _ => JobRef.resync.inj
  · simp only [List.mem_map]
    rintro _ ⟨i, -, rfl⟩ _ ⟨j, -, rfl⟩ same
    cases same

/-- An entry across warm reset keeps its rows. -/
theorem SlotEntry.warm_rows (e : SlotEntry) :
    e.warm.home = e.home ∧ e.warm.current = e.current ∧ e.warm.currentRow = e.currentRow ∧ e.warm.nextRow = e.nextRow
      ∧ (e.warm.phase = .active ↔ e.phase = .active) ∧ e.warm.isCopying = false := by
  obtain ⟨home, current, phase, cause, lost⟩ := e
  cases phase <;> simp [SlotEntry.warm, SlotEntry.currentRow, SlotEntry.nextRow, SlotEntry.isCopying]

theorem warm_some {s : State} {i : SlotIx} {e : SlotEntry} (h : e ∈ (mapV (Option.map SlotEntry.warm) s.slots)[i]) :
    ∃ x, s.slots[i] = some x ∧ e = x.warm := by
  rw [getElem_mapV] at h
  obtain ⟨x, hx, rfl⟩ := Option.mem_map.1 h
  exact ⟨x, hx, rfl⟩

theorem RankSched.warm_noWorse (k : RankNo) (r : RankSched) : r.NoWorse k r.warm :=
  noWorse_of_gist (fun _ => ⟨Nat.zero_le _, Nat.zero_le _⟩) (List.nil_sublist _) RankSched.abandoned_banks

theorem assertReset_keeps (s : State) : Keeps s s.assertReset := by
  refine .ite (fun _ => .refl s) fun _ => ?_
  constructor
  case pending => rfl
  case store => exact id
  case log => exact id
  case front => exact fun _ => FrontLink.Sound.reset
  case ranks => exact fun h => ranksSound.map h RankSched.warm_noWorse
  case tracker => exact fun _ => trackerSound.nil
  case regions =>
    rintro ⟨table, normal, records⟩
    exact ⟨table, fun i => ⟨(normal i).1, (normal i).1⟩, records⟩
  case homes =>
    intro h i j e he f hf same
    obtain ⟨x, hx, rfl⟩ := warm_some he
    obtain ⟨y, hy, rfl⟩ := warm_some hf
    exact h i j x hx y hy (by rw [← x.warm_rows.1, ← y.warm_rows.1, same])
  case spares =>
    rintro - - ⟨cursors, placed, roles⟩
    refine ⟨cursors, fun i e he => ?_, fun i j e he f hf => ?_⟩
    · obtain ⟨x, hx, rfl⟩ := warm_some he
      obtain ⟨home, current, -, next, phase, -⟩ := x.warm_rows
      rw [home, current, next, ne_eq, phase]
      exact placed i x hx
    · obtain ⟨x, hx, rfl⟩ := warm_some he
      obtain ⟨y, hy, rfl⟩ := warm_some hf
      obtain ⟨-, -, xcurrent, xnext, -⟩ := x.warm_rows
      obtain ⟨-, -, ycurrent, ynext, -⟩ := y.warm_rows
      rw [xcurrent, xnext, ycurrent, ynext]
      exact roles i j x hx y hy
  case jobs =>
    intro _
    rw [State.jobsSound_iff]
    refine ⟨State.rebuiltQueue_tables { s with slots := mapV (Option.map SlotEntry.warm) s.slots } fun i => ?_, by simp,
      by simp [Engine.closedWaits]⟩
    rw [State.slotCopying_eq]
    simp only [getElem_mapV, copyingIn]
    cases s.slots[i] with
    | none => rfl
    | some e => exact e.warm_rows.2.2.2.2.2

theorem RankSched.wake_noWorse (k : RankNo) (r : RankSched) : r.NoWorse k r.wake := by
  simp only [RankSched.wake]
  split
  · exact r.placeWide_noWorse k .exit
  · exact fun sound => ⟨sound, le_rfl⟩

theorem quiesceFromRanks_keeps (s : State) : Keeps s s.quiesceFromRanks :=
  .ite (fun _ => .aside s ..) fun _ =>
    .ite (fun _ => (onRanks_keeps s _ RankSched.wake_noWorse).trans (.aside (s.onRanks _) ..)) fun _ => enterByRequest_keeps s

theorem releaseReset_keeps (s : State) : Keeps s s.releaseReset := by
  refine .ite (fun _ => ?_) fun _ => .refl s
  have released : Keeps s (s.onRanks RankSched.release) :=
    onRanks_keeps s _ fun k r => RankSched.noWorse_of_counts (fun sound => ⟨sound.1, sound.2.1⟩) rfl rfl
  exact ((released.trans (.aside (s.onRanks _) ..)).trans (quiesceFromRanks_keeps _)).trans (offer_keeps _ _)

end Sys2Proof.Machine
end

section
/-! PROOFS. The five checks of a commit (R22 to R27), each said of the two tables, and what a commit that passes them has. -/

namespace Sys2Proof.Machine

/-! ### The range and overlap checks (R23, R24) -/

theorem RegionEntry.badRange_eq_false_iff (e : RegionEntry) : e.badRange = false ↔ e.InRange := by
  have rank_byte : (e.rank = 0 ∨ e.rank = 2) ↔ (e.rank.toNat = 0 ∨ e.rank.toNat = 2) := by
    simp [BitVec.toNat_eq]
  simp only [RegionEntry.badRange, RegionEntry.InRange, Bool.and_eq_false_imp, Bool.or_eq_false_iff, decide_eq_false_iff_not,
    Nat.not_lt, beq_eq_false_iff_ne, decide_eq_true_eq, Bool.not_eq_false', Bool.or_eq_true, beq_iff_eq, rank_byte,
    and_assoc, ne_eq]

theorem RegionEntry.meets_eq_false_iff (e f : RegionEntry) : e.meets f = false ↔ e.Apart f := by
  simp only [RegionEntry.meets, RegionEntry.Apart, Bool.and_eq_false_iff, decide_eq_false_iff_not, Nat.not_le]
  exact or_comm

theorem overlapFails_eq_false_iff (t : RegionTable) (i : RegionIx) :
    overlapFails t i = false ↔ ∀ j : RegionIx, (t[i]).valid = true → (t[j]).valid = true →
      ((i ≠ j ∧ (t[i]).rank = (t[j]).rank) ∨
        ((t[j]).policy = .mirrored ∧ (t[i]).rank.toNat = (t[j]).rank.toNat + 1)) → (t[i]).Apart t[j] := by
  simp only [overlapFails, Bool.and_eq_false_imp, List.any_eq_false, mem_regionIxs, true_implies, Bool.and_eq_true,
    Bool.or_eq_true, decide_eq_true_eq, not_and]
  constructor
  · intro apart j valid other related
    rw [← RegionEntry.meets_eq_false_iff]
    by_contra meets
    exact apart valid j ⟨other, by simpa using meets⟩ related
  · rintro apart valid j ⟨other, meets⟩ related
    have := (RegionEntry.meets_eq_false_iff _ _).2 (apart j valid other related)
    rw [meets] at this
    cases this

/-! ### The POOL sets (R26) -/

theorem inPool_iff (t : RegionTable) (k : RankNo) (n : Nat) :
    inPool t k n = true ↔ ∃ e ∈ poolEntries t k, e.first.toNat ≤ n ∧ n ≤ e.last.toNat := by
  simp [inPool, RegionEntry.hasStripe]

theorem inPool_iff_poolStripe (t : RegionTable) (k : RankNo) (r : RowNo) : inPool t k r.val = true ↔ poolStripe t k r := by
  rw [inPool_iff, poolStripe_iff]

theorem mem_poolEdges (t : RegionTable) (k : RankNo) (n : Nat) :
    n ∈ poolEdges t k ↔ ∃ e ∈ poolEntries t k, n = e.first.toNat ∨ n = e.last.toNat + 1 := by
  simp [poolEdges]

/-- Between two edges membership of the POOL set stays as it is. -/
theorem inPool_succ {t : RegionTable} {k : RankNo} {n : Nat} (inner : n + 1 ∉ poolEdges t k) :
    inPool t k (n + 1) = inPool t k n := by
  rw [Bool.eq_iff_iff, inPool_iff, inPool_iff]
  simp only [mem_poolEdges, not_exists, not_and, not_or] at inner
  refine exists_congr fun e => and_congr_right fun he => ?_
  have := inner e he
  omega

theorem inPool_zero {t : RegionTable} {k : RankNo} (inner : 0 ∉ poolEdges t k) : inPool t k 0 = false := by
  rw [Bool.eq_false_iff, ne_eq, inPool_iff]
  simp only [mem_poolEdges, not_exists, not_and, not_or] at inner ⊢
  intro e he
  have := inner e he
  omega

/-- POOL sets that agree at every edge agree. -/
theorem poolChanged_eq_false_iff (t u : RegionTable) (k : RankNo) :
    poolChanged t u k = false ↔ ∀ n, inPool t k n = inPool u k n := by
  simp only [poolChanged, List.any_eq_false, List.mem_append, decide_eq_true_eq, not_not]
  refine ⟨fun edges n => ?_, fun same n _ => same n⟩
  induction n with
  | zero =>
    by_cases edge : 0 ∈ poolEdges t k ∨ 0 ∈ poolEdges u k
    · exact edges 0 edge
    · rw [not_or] at edge
      rw [inPool_zero edge.1, inPool_zero edge.2]
  | succ n ih =>
    by_cases edge : n + 1 ∈ poolEdges t k ∨ n + 1 ∈ poolEdges u k
    · exact edges _ edge
    · rw [not_or] at edge
      rw [inPool_succ edge.1, inPool_succ edge.2, ih]

theorem poolStripe_congr {t u : RegionTable} {k : RankNo} (same : poolChanged t u k = false) (r : RowNo) :
    poolStripe t k r ↔ poolStripe u k r := by
  rw [← inPool_iff_poolStripe, ← inPool_iff_poolStripe, (poolChanged_eq_false_iff t u k).1 same]

theorem RegionEntry.sameExtent_iff (e f : RegionEntry) :
    e.sameExtent f = true ↔
      e.valid = f.valid ∧ e.rank = f.rank ∧ e.first = f.first ∧ e.last = f.last ∧ e.policy = f.policy := by
  simp [RegionEntry.sameExtent, and_assoc]

/-- Entries of POOL that agree at every index give one POOL set. -/
theorem inPool_of_sameExtents {t u : RegionTable} {k : RankNo}
    (same : ∀ i : RegionIx, t[i].poolOf k = true ∨ u[i].poolOf k = true → t[i].sameExtent u[i] = true) (n : Nat) :
    inPool t k n = inPool u k n := by
  rw [Bool.eq_iff_iff, inPool_iff, inPool_iff]
  simp only [mem_poolEntries, RegionEntry.poolOf_iff] at same ⊢
  constructor
  · rintro ⟨_, ⟨i, rfl, pool⟩, run⟩
    obtain ⟨valid, rank, first, last, policy⟩ := (RegionEntry.sameExtent_iff _ _).1 (same i (.inl pool))
    exact ⟨u[i], ⟨i, rfl, by rwa [← valid, ← rank, ← policy]⟩, by rwa [← first, ← last]⟩
  · rintro ⟨_, ⟨i, rfl, pool⟩, run⟩
    obtain ⟨valid, rank, first, last, policy⟩ := (RegionEntry.sameExtent_iff _ _).1 (same i (.inr pool))
    exact ⟨t[i], ⟨i, rfl, by rwa [valid, rank, policy]⟩, by rwa [first, last]⟩

/-- A changed POOL set differs in an entry of POOL (R26). -/
theorem exists_differing_pool {t u : RegionTable} {k : RankNo} (changed : poolChanged t u k = true) :
    ∃ i : RegionIx, (t[i].poolOf k = true ∨ u[i].poolOf k = true) ∧ t[i].sameExtent u[i] = false := by
  by_contra none
  have same := (poolChanged_eq_false_iff t u k).2 (inPool_of_sameExtents fun i pool => by
    by_contra differs
    exact none ⟨i, pool, by simpa using differs⟩)
  rw [changed] at same
  cases same

theorem State.poolFails_iff (s : State) (k : RankNo) :
    s.poolFails k = true ↔
      poolChanged s.active s.staged k = true ∧ ∃ i : SlotIx, ∃ e ∈ s.slots[i], e.home.rank = k := by
  simp only [State.poolFails, Bool.and_eq_true, List.any_eq_true, Prod.exists, s.mem_slotsInUse, decide_eq_true_eq]
  exact Iff.rfl

theorem mem_rankNos (k : RankNo) : k ∈ rankNos := by
  revert k
  decide

theorem State.poolIndexFails_iff (s : State) (i : RegionIx) :
    s.poolIndexFails i = true ↔ ∃ k : RankNo, s.poolFails k = true
      ∧ ((s.active[i]).poolOf k = true ∨ (s.staged[i]).poolOf k = true) ∧ (s.active[i]).sameExtent s.staged[i] = false := by
  simp only [State.poolIndexFails, List.any_eq_true, mem_rankNos, true_and, Bool.and_eq_true, Bool.or_eq_true,
    Bool.not_eq_true', and_assoc]

/-- No index fails the pool change check exactly where no rank does. -/
theorem State.poolIndexFails_none_iff (s : State) : (∀ i, s.poolIndexFails i = false) ↔ ∀ k, s.poolFails k = false := by
  constructor
  · intro none k
    by_contra fails
    rw [Bool.not_eq_false] at fails
    obtain ⟨i, pool, differs⟩ := exists_differing_pool ((s.poolFails_iff k).1 fails).1
    have := none i
    rw [← Bool.not_eq_true, s.poolIndexFails_iff] at this
    exact this ⟨k, fails, pool, differs⟩
  · intro none i
    rw [← Bool.not_eq_true, s.poolIndexFails_iff]
    rintro ⟨k, fails, -⟩
    rw [none k] at fails
    cases fails

/-! ### The containment and rebuild checks (R25, R27) -/

theorem rowIn_iff (t : RegionTable) (p : Policy) (r : PhysRow) :
    rowIn t p r = true ↔ ∃ i : RegionIx, (t[i]).policy = p ∧ (t[i]).covers r.rank r.row = true := by
  simp [rowIn, mem_regionIxs]

/-- A row in a SPARED entry of a sound table decodes to SPARED. -/
theorem decodeRow_of_rowIn {t : RegionTable} (sound : tableSound t) {p : Policy} {r : PhysRow} (h : rowIn t p r = true) :
    ∃ j patrol, decodeRow t r = .region j p patrol := by
  obtain ⟨i, policy, cover⟩ := (rowIn_iff t p r).1 h
  refine ⟨i, t[i].patrol, policy ▸ decodeStripe_of_covers cover fun n lt => ?_⟩
  by_contra also
  exact absurd (eq_of_covers sound (by simpa using also) cover) lt.ne

theorem SlotEntry.mem_uncontained (t : RegionTable) (e : SlotEntry) (r : PhysRow) :
    r ∈ e.uncontained t ↔
      (r = e.home ∧ rowIn t .spared r = false)
        ∨ (r = e.currentRow ∧ e.current ≠ e.home.row ∧ rowIn t .pool r = false)
        ∨ (e.nextRow = some r ∧ rowIn t .pool r = false) := by
  simp only [SlotEntry.uncontained, List.mem_append, or_assoc]
  refine or_congr ?_ (or_congr ?_ ?_)
  · by_cases h : rowIn t .spared e.home = true
    · simp only [h, if_true, List.not_mem_nil, false_iff, not_and]
      rintro rfl
      simp [h]
    · rw [if_neg h, List.mem_singleton]
      refine ⟨?_, fun h => h.1⟩
      rintro rfl
      exact ⟨rfl, by simpa using h⟩
  · by_cases h : e.current = e.home.row ∨ rowIn t .pool e.currentRow = true
    · simp only [h, if_true, List.not_mem_nil, false_iff, not_and]
      rintro rfl moved
      simpa using h.resolve_left moved
    · simp only [h, if_false, List.mem_singleton]
      rw [not_or] at h
      refine ⟨?_, fun h => h.1⟩
      rintro rfl
      exact ⟨rfl, h.1, by simpa using h.2⟩
  · cases next : e.nextRow with
    | none => simp
    | some x =>
      by_cases h : rowIn t .pool x = true
      · simp only [h, if_true, List.not_mem_nil, false_iff, not_and, Option.some.injEq]
        rintro rfl
        simp [h]
      · simp only [if_neg h, List.mem_singleton, Option.some.injEq]
        refine ⟨?_, fun h => h.1.symm⟩
        rintro rfl
        exact ⟨rfl, by simpa using h⟩

theorem State.mem_uncontainedRows (s : State) (r : PhysRow) :
    r ∈ s.uncontainedRows ↔ ∃ i : SlotIx, ∃ e ∈ s.slots[i], r ∈ e.uncontained s.staged := by
  simp only [State.uncontainedRows, List.mem_flatMap, Prod.exists, s.mem_slotsInUse]
  exact Iff.rfl

theorem RegionEntry.isMirror_iff (e : RegionEntry) : e.isMirror = true ↔ e.valid = true ∧ e.policy = .mirrored := by
  simp [RegionEntry.isMirror]

theorem RegionEntry.sameMirror_iff (e f : RegionEntry) : e.sameMirror f = true ↔ sameMirrored e f := by
  simp only [RegionEntry.sameMirror, sameMirrored, Bool.and_eq_true, RegionEntry.isMirror_iff, beq_iff_eq]
  tauto

theorem sameMirrored_comm (e f : RegionEntry) : sameMirrored e f ↔ sameMirrored f e := by
  simp only [sameMirrored]
  constructor <;> rintro ⟨a, b, c, d, h, g, k⟩ <;> exact ⟨b, a, d, c, h.symm, g.symm, k.symm⟩

theorem RegionEntry.sameMirror_comm (e f : RegionEntry) : e.sameMirror f = f.sameMirror e := by
  rw [Bool.eq_iff_iff, sameMirror_iff, sameMirror_iff, sameMirrored_comm]

theorem State.rebuildingAt_eq (s : State) (i : RegionIx) : s.rebuildingAt i = rebuildingIn s.mirrors[i] := by
  simp only [State.rebuildingAt, rebuildingIn]
  cases s.mirrors[i] <;> rfl

/-- A commit that fails no check: each check in turn fails nothing. -/
theorem State.commitFailure_eq_none_iff (s : State) :
    s.commitFailure = none ↔
      tableSound s.staged ∧ s.uncontainedRows = [] ∧ (∀ k, s.poolFails k = false) ∧ ∀ i, s.rebuildFails i = false := by
  have table : tableSound s.staged ↔ (∀ i : RegionIx, (s.staged[i]).badRange = false) ∧ ∀ i, overlapFails s.staged i = false := by
    simp only [tableSound, RegionEntry.badRange_eq_false_iff, overlapFails_eq_false_iff]
  rw [table, ← s.poolIndexFails_none_iff, ← find_regionIxs_eq_none_iff, ← find_regionIxs_eq_none_iff,
    ← find_regionIxs_eq_none_iff, ← find_regionIxs_eq_none_iff]
  simp only [State.commitFailure]
  split
  next fails => simp only [fails, reduceCtorEq, false_and]
  next range =>
    split
    next fails => simp only [fails, reduceCtorEq, false_and, and_false]
    next overlap =>
      split
      next contained => simp only [contained, reduceCtorEq, false_and, and_false]
      next contained =>
        split
        next fails => simp only [fails, reduceCtorEq, false_and, and_false]
        next pools =>
          split
          next fails => simp only [fails, reduceCtorEq, and_false]
          next rebuilds =>
            rw [not_not] at contained
            simp only [range, overlap, contained, pools, rebuilds, and_self]

end Sys2Proof.Machine
end

section
/-! PROOFS. What a commit keeps (R28 to R30, R132), what the mirror commands keep (R113, R120, R121), and with them what
every command and every step keeps. -/

namespace Sys2Proof.Machine

/-! ### The commit -/

theorem State.createsMirror_iff (s : State) (i : RegionIx) :
    s.createsMirror i = true ↔ (s.staged[i]).isMirror = true ∧ (s.active[i]).sameMirror s.staged[i] = false := by
  simp [State.createsMirror]

/-- The mirror record at an index after the commit is there exactly for a MIRRORED entry. -/
theorem settledMirror_isSome {s : State}
    (records : ∀ i : RegionIx, (s.mirrors[i]).isSome = ((s.active[i]).valid && decide ((s.active[i]).policy = .mirrored)))
    (i : RegionIx) : (s.settledMirror i).isSome = (s.staged[i]).isMirror := by
  simp only [State.settledMirror]
  split
  next creates => exact ((s.createsMirror_iff i).1 creates).1.symm
  next kept =>
    split
    next mirror =>
      rw [s.createsMirror_iff, not_and, Bool.not_eq_false] at kept
      obtain ⟨valid, -, policy, -⟩ := (RegionEntry.sameMirror_iff _ _).1 (kept mirror)
      rw [records i, valid, policy, mirror]
      rfl
    next other => simpa using other

theorem settledMirror_counts {s : State} (bounds : ∀ i : RegionIx, ∀ m ∈ s.mirrors[i], m.primaryCount ≤ 4 ∧ m.shadowCount ≤ 4)
    (i : RegionIx) : ∀ m ∈ s.settledMirror i, m.primaryCount ≤ 4 ∧ m.shadowCount ≤ 4 := by
  intro m hm
  simp only [State.settledMirror] at hm
  split at hm
  · obtain rfl := Option.some.inj hm
    exact ⟨Nat.zero_le _, Nat.zero_le _⟩
  · split at hm
    · exact bounds i m hm
    · cases hm

/-- The regions that a commit leaves rebuilding: those that were, and those whose records it creates. -/
theorem rebuildingIn_settledMirror {s : State} (kept : ∀ i, s.rebuildFails i = false) (i : RegionIx) :
    rebuildingIn (s.settledMirror i) = (decide (i ∈ regionIxs.filter s.createsMirror) || rebuildingIn s.mirrors[i]) := by
  have unkept := kept i
  rw [State.rebuildFails, s.rebuildingAt_eq, RegionEntry.sameMirror_comm] at unkept
  simp only [State.settledMirror, List.mem_filter, mem_regionIxs, true_and]
  split
  next creates => simp [creates, rebuildingIn, MirrorState.rebuilding]
  next old =>
    split
    next => simp [old]
    next other =>
      have unmirrored : (s.active[i]).sameMirror s.staged[i] = false := by
        rw [← Bool.not_eq_true, RegionEntry.sameMirror_iff]
        rintro ⟨-, valid, -, policy, -⟩
        exact other ((RegionEntry.isMirror_iff _).2 ⟨valid, policy⟩)
      simpa [unmirrored, old, rebuildingIn, -Fin.getElem_fin] using unkept

theorem cursorRank_cursorIx (k : RankNo) (b : BankNo) : cursorRank (cursorIx k b) = k := by
  apply Fin.ext
  simp only [cursorRank, cursorIx_val, Fin.val_ofNat]
  omega

theorem committed_cursor (s : State) (k : RankNo) (b : BankNo) :
    s.committed.cursors[cursorIx k b] = if poolChanged s.active s.staged k then 0 else s.cursors[cursorIx k b] := by
  simp only [State.committed, Fin.getElem_fin, Vector.getElem_ofFn, Fin.eta, cursorRank_cursorIx]

section
variable {s : State} (ok : s.commitFailure = none)
include ok

theorem committed_regions (h : s.RegionsSound) : s.committed.RegionsSound := by
  obtain ⟨-, normal, records, bounds⟩ := h
  have mirror (i : RegionIx) : s.committed.mirrors[i] = s.settledMirror i := by simp [State.committed]
  refine ⟨(s.commitFailure_eq_none_iff.1 ok).1, fun i => ⟨(normal i).2, (normal i).2⟩, fun i => ?_, fun i => ?_⟩
  · rw [mirror, settledMirror_isSome records]
    rfl
  · rw [mirror]
    exact settledMirror_counts bounds i

/-- On a rank with a slot in use the POOL set and the cursors stay. -/
theorem committed_used {i : SlotIx} {e : SlotEntry} (he : e ∈ s.slots[i]) : poolChanged s.active s.staged e.home.rank = false := by
  have fine := (s.commitFailure_eq_none_iff.1 ok).2.2.1 e.home.rank
  by_contra changed
  rw [← Bool.not_eq_true, s.poolFails_iff] at fine
  exact fine ⟨by simpa using changed, i, e, he, rfl⟩

theorem committed_spares (regions : s.RegionsSound) (h : s.SparesSound) : s.committed.SparesSound := by
  obtain ⟨staged, contained, -⟩ := s.commitFailure_eq_none_iff.1 ok
  obtain ⟨cursors, placed, roles⟩ := s.sparesSound_iff.1 h
  have spares {k : RankNo} (same : poolChanged s.active s.staged k = false) (n : Nat) :
      spareAt s.active k n = spareAt s.staged k n :=
    spareAt_congr regions.1 staged (poolStripe_congr same) n
  refine (State.sparesSound_iff _).2 ⟨fun k b => ?_, fun i e he => ?_, roles⟩
  · rw [committed_cursor]
    split
    · exact Nat.zero_le _
    next same =>
      by_contra more
      have here := spareAt_isSome s.staged k (spareCount s.staged k)
      rw [← spares (by simpa using same), spareAt_isSome] at here
      have : ¬ spareCount s.staged k < spareCount s.active k := by simpa using here
      exact more ((cursors k b).trans (not_lt.1 this))
  · have same := committed_used ok he
    obtain ⟨-, current, next⟩ := placed i e he
    have taken (r : RowNo) (before : s.spareTaken e.home.rank e.home.bank r) :
        s.committed.spareTaken e.home.rank e.home.bank r := by
      obtain ⟨n, below, spare⟩ := before
      refine ⟨n, ?_, (spares same n) ▸ spare⟩
      rwa [committed_cursor, same, if_neg Bool.false_ne_true]
    refine ⟨decodeRow_of_rowIn staged ?_, current.imp id (taken _), fun r hr => taken _ (next r hr)⟩
    by_contra uncontained
    have there : e.home ∈ s.uncontainedRows := (s.mem_uncontainedRows _).2
      ⟨i, e, he, (e.mem_uncontained _ _).2 (.inl ⟨rfl, by simpa using uncontained⟩)⟩
    rw [contained] at there
    cases there

theorem committed_jobs (h : s.JobsSound) : s.committed.JobsSound := by
  obtain ⟨-, -, -, kept⟩ := s.commitFailure_eq_none_iff.1 ok
  have ascending : regionIxs.Nodup := by decide
  rw [State.jobsSound_iff_in] at h ⊢
  refine ⟨h.1.addResyncs (ascending.filter _) (fun i hi => ?_) fun i => ?_, h.2⟩
  · have unkept := kept i
    rw [State.rebuildFails, s.rebuildingAt_eq, RegionEntry.sameMirror_comm] at unkept
    obtain ⟨-, other⟩ := (s.createsMirror_iff i).1 (List.mem_filter.1 hi).2
    simpa [other, -Fin.getElem_fin] using unkept
  · rw [← rebuildingIn_settledMirror kept i]
    simp [State.committed]

theorem committed_keeps : Keeps s s.committed where
  pending := rfl
  store := id
  log := id
  front := id
  ranks := id
  tracker := fun _ => trackerSound.nil
  regions := committed_regions ok
  homes := id
  spares := fun regions _ => committed_spares ok regions
  jobs := committed_jobs ok

end

theorem commitRegions_keeps (s : State) : Keeps s s.commitRegions := by
  simp only [State.commitRegions]
  split
  · exact respond_keeps ..
  next ok => exact (committed_keeps ok).trans (respond_keeps ..)

theorem RegionEntry.normalised_normal (e : RegionEntry) : e.normalised.Normal := by
  constructor
  · rintro (pool | closed)
    · simp [RegionEntry.normalised, show e.policy = .pool from pool]
    · simp [RegionEntry.normalised, show e.policy = .closed from closed]
  · intro other
    exact if_neg other

theorem stageRegion_keeps (s : State) (index valid rank : Byte) (first last : BitVec 16) (policy patrol threshold : Byte) :
    Keeps s (s.stageRegion index valid rank first last policy patrol threshold) := by
  simp only [State.stageRegion]
  split
  next i p v pt _ _ _ _ =>
    refine .trans ?_ (respond_keeps ..)
    refine ⟨rfl, id, id, id, id, id, fun h => ?_, id, fun _ _ h => h, id⟩
    obtain ⟨table, normal, records⟩ := h
    refine ⟨table, fun j => ⟨(normal j).1, ?_⟩, records⟩
    simp only [getElem_set]
    split
    · exact RegionEntry.normalised_normal _
    · exact (normal j).2
  · exact respond_keeps ..

/-! ### FAIL_SIDE and RESYNC_REGION (R113, R120, R121) -/

theorem failSideResult_rests {m m' : MirrorState} {x : Side} (h : failSideResult m x = .inl m') : m'.rebuilding = none := by
  cases m <;> cases x <;> cases h <;> rfl

theorem resyncResult_begins {m m' : MirrorState} (h : resyncResult m = .inl m') :
    m.rebuilding = none ∧ m'.rebuilding.isSome = true := by
  cases m <;> cases h <;> exact ⟨rfl, rfl⟩

/-- A record whose rebuild ends with its resync cancelled, queued or in progress. -/
theorem cancelResync_keeps {s : State} {i : RegionIx} {m m' : MirrorRecord} (here : s.mirrors[i] = some m)
    (rests : m'.state.rebuilding = none)
    (counts : m.primaryCount ≤ 4 ∧ m.shadowCount ≤ 4 → m'.primaryCount ≤ 4 ∧ m'.shadowCount ≤ 4) :
    Keeps s ((s.setMirror i (some m')).cancelResync i) := by
  have ended (n : RegionIx) : rebuildingIn (s.mirrors.set i (some m'))[n] = (decide (n ≠ i) && rebuildingIn s.mirrors[n]) := by
    rw [rebuildingIn_set]
    by_cases same : n = i <;> simp [same, rebuildingIn, rests]
  simp only [State.cancelResync]
  cases found : ((s.setMirror i (some m')).removeJob (.resync i)).jobFor (.resync i) with
  | none =>
    rw [State.closeJob_none _ _ found]
    refine .of_mirror here { s.engine with queue := s.engine.queue.erase (.resync i) } counts fun h => ?_
    have elsewhere : s.engine.inProgress ≠ some (.resync i) := fun now => by
      have := (s.jobFor_isSome (.resync i)).2 now
      rw [show s.jobFor (.resync i) = none from found] at this
      cases this
    rw [State.jobsSound_iff_in] at h ⊢
    refine ⟨h.1.dropResync (fun ref => ⟨fun now => ⟨now, ?_⟩, fun now => now.1⟩) ended, h.2⟩
    rintro rfl
    exact elsewhere now
  | some j =>
    rw [State.closeJob_eq_release found]
    have foundBefore : s.jobFor (.resync i) = some j := found
    obtain ⟨job, -, -⟩ := s.jobFor_eq_some.1 foundBefore
    refine .trans ?_ (releaseHeld_keeps _ _)
    refine .of_mirror here (Engine.closing { s.engine with queue := s.engine.queue.erase (.resync i) } j) counts fun h => ?_
    rw [State.jobsSound_iff_in] at h ⊢
    obtain ⟨tables, rest⟩ := h
    refine ⟨?_, Engine.closing_rest (e := { s.engine with queue := s.engine.queue.erase (.resync i) }) job rest⟩
    rw [Engine.closing_queue]
    exact tables.dropResync (State.closing_inProgress_iff
      (s := { s with engine := { s.engine with queue := s.engine.queue.erase (.resync i) } }) foundBefore) ended

theorem failSide_keeps (s : State) (index side : Byte) : Keeps s (s.failSide index side) := by
  simp only [State.failSide]
  split
  next i x _ _ =>
    split
    · exact respond_keeps ..
    next m here =>
      split
      · exact respond_keeps ..
      next m' result =>
        exact ((cancelResync_keeps (m' := { m with state := m' }) here (failSideResult_rests result) id).trans
          (offer_keeps _ (.mirrorSideFailed i x .management))).trans (respond_keeps ..)
  · exact respond_keeps ..

theorem resyncRegion_keeps (s : State) (index : Byte) : Keeps s (s.resyncRegion index) := by
  simp only [State.resyncRegion]
  split
  · exact respond_keeps ..
  next i _ =>
    split
    · exact respond_keeps ..
    next m here =>
      split
      · exact respond_keeps ..
      next m' result =>
        obtain ⟨rested, begins⟩ := resyncResult_begins result
        refine .trans ?_ (respond_keeps ..)
        refine .of_mirror (m' := { m with state := m' }) here { s.engine with queue := s.engine.queue ++ [.resync i] } id
          fun h => ?_
        rw [State.jobsSound_iff_in] at h ⊢
        refine ⟨h.1.addResyncs (l := [i]) (List.nodup_singleton i) (fun n hn => ?_) fun n => ?_, h.2⟩
        · obtain rfl := List.mem_singleton.1 hn
          simp [-Fin.getElem_fin, show s.mirrors[n] = some m from here, rebuildingIn, rested]
        · rw [rebuildingIn_set]
          by_cases same : n = i <;> simp [same, rebuildingIn, begins]

/-! ### The other commands at the service port -/

theorem popEvent_keeps (s : State) : Keeps s s.popEvent := by
  simp only [State.popEvent]
  split
  · exact respond_keeps ..
  next oldest => exact (Keeps.of_log _ fun h => h.pop oldest).trans (respond_keeps ..)

theorem setAlertMask_keeps (s : State) (mask : BitVec 16) : Keeps s (s.setAlertMask mask) :=
  .ite (fun _ => (Keeps.of_log _ fun h => h.masked mask).trans (respond_keeps ..)) fun _ => respond_keeps ..

end Sys2Proof.Machine
end

section
/-! PROOFS. What every command and every step keeps, and the obligations that say so of each invariant. -/

namespace Sys2Proof.Machine

/-- A command answers a next state, which keeps what its first state meets. -/
def KeepsOn (s : State) (o : Host.Outcome State Fault Refusal) : Prop := ∃ t, o = .next t ∧ Keeps s t

theorem KeepsOn.next {s t : State} (h : Keeps s t) : KeepsOn s (.next t) := ⟨t, rfl, h⟩

/-- An event outside the rank ports, or a command at the service port: it leaves the state while RESET_N is asserted. -/
theorem KeepsOn.unlessReset {s t : State} (h : Keeps s t) : KeepsOn s (.next (if s.resetN then s else t)) :=
  .next (.ite (fun _ => .refl s) fun _ => h)

/-! ### Completions at the rank ports -/

/-- A read that completes, its result discarded or not. -/
theorem readDone_keeps {s : State} {k : RankNo} {b : BankNo} {l : Loc} {d : Option StoredLine} {gone : Bool}
    {f : State → Reading → State} (done : ∀ t rd, Keeps t (f t rd)) :
    Keeps s (if gone then ((s.freeBank k b).sense l d).1
      else f ((s.freeBank k b).sense l d).1 ((s.freeBank k b).sense l d).2) :=
  ((freeBank_keeps s k b).trans (sense_keeps ..)).trans (.ite (fun _ => .refl _) fun _ => done _ _)

/-- A write that completes, its result discarded or not. -/
theorem writeDone_keeps {s : State} {k : RankNo} {b : BankNo} {l : Loc} {form : LineForm} {gone : Bool} {f : State → State}
    (done : ∀ t, Keeps t (f t)) :
    Keeps s (if gone then (s.freeBank k b).storeForm l form else f ((s.freeBank k b).storeForm l form)) :=
  ((freeBank_keeps s k b).trans (storeForm_keeps ..)).trans (.ite (fun _ => .refl _) fun _ => done _)

section
variable (s : State) (k : RankNo) (b : BankNo) (d : Option StoredLine)

theorem hostReadComplete_keeps : KeepsOn s (execHostReadComplete k b d s) := by
  simp only [execHostReadComplete]
  split
  next tag cls la l _ gone _ =>
    exact .next (readDone_keeps (f := fun t rd => t.requestReadDone false tag cls la l rd) fun t rd =>
      requestReadDone_keeps ..)
  · exact .next (.refl s)

theorem mergeReadComplete_keeps : KeepsOn s (execMergeReadComplete k b d s) := by
  simp only [execMergeReadComplete]
  split
  next tag cls la l _ gone _ =>
    exact .next (readDone_keeps (f := fun t rd => t.requestReadDone true tag cls la l rd) fun t rd =>
      requestReadDone_keeps ..)
  · exact .next (.refl s)

theorem failoverReadComplete_keeps : KeepsOn s (execFailoverReadComplete k b d s) := by
  simp only [execFailoverReadComplete]
  split
  next tag merge i born la l mark gone _ =>
    exact .next (readDone_keeps (f := fun t rd => t.failoverDone tag merge i born la l mark rd) fun t rd =>
      failoverDone_keeps ..)
  · exact .next (.refl s)

theorem moveReadComplete_keeps : KeepsOn s (execMoveReadComplete k b d s) := by
  simp only [execMoveReadComplete]
  split
  · exact .next (readDone_keeps (f := State.moveReadDone) moveReadDone_keeps)
  · exact .next (.refl s)

theorem patrolReadComplete_keeps : KeepsOn s (execPatrolReadComplete k b d s) := by
  simp only [execPatrolReadComplete]
  split
  next turn la l mark gone _ =>
    exact .next (readDone_keeps (f := fun t rd => t.patrolReadDone turn la l mark rd) fun t rd => patrolReadDone_keeps ..)
  · exact .next (.refl s)

theorem entryWriteComplete_keeps : KeepsOn s (execEntryWriteComplete k b s) := by
  simp only [execEntryWriteComplete]
  split
  next f _ la l _ gone _ => exact .next (writeDone_keeps (f := fun t => t.entryWriteDone la) fun t => entryWriteDone_keeps t la)
  · exact .next (.refl s)

theorem targetWriteComplete_keeps : KeepsOn s (execTargetWriteComplete k b s) := by
  simp only [execTargetWriteComplete]
  split
  · exact .next (writeDone_keeps endStep_keeps)
  · exact .next (.refl s)

theorem repairWriteComplete_keeps : KeepsOn s (execRepairWriteComplete k b s) := by
  simp only [execRepairWriteComplete]
  split
  next data i side patrol _ la l _ gone _ =>
    refine .next (writeDone_keeps (f := fun t =>
      let t := (t.onCounters fun c => { c with repairsWritten := satInc c.repairsWritten }).offer
        (.mirrorRepaired i side (homeLoc la))
      if patrol then t.patrolDone else t) fun t => ?_)
    exact ((onCounters_keeps t _).trans (offer_keeps _ _)).trans (.ite (fun _ => patrolDone_keeps _) fun _ => .refl _)
  · exact .next (.refl s)

theorem scrubWriteComplete_keeps : KeepsOn s (execScrubWriteComplete k b s) := by
  simp only [execScrubWriteComplete]
  split
  · exact .next (writeDone_keeps fun t => (onCounters_keeps t fun c => { c with scrubWrites := satInc c.scrubWrites }).trans
      (patrolDone_keeps _))
  · exact .next (.refl s)

end

/-! ### Commands that only answer -/

theorem frameInvalid_keeps (s : State) (frame : List Byte) : Keeps s (s.frameInvalid frame) := by
  refine .ite (fun _ => .refl s) fun _ => ?_
  split
  · exact respond_keeps ..
  · exact .refl s

theorem peekEvent_keeps (s : State) : Keeps s s.peekEvent := by
  simp only [State.peekEvent]
  split <;> exact respond_keeps ..

theorem readRegion_keeps (s : State) (index selector : Byte) : Keeps s (s.readRegion index selector) := by
  simp only [State.readRegion]
  split <;> exact respond_keeps ..

theorem getStatus_keeps (s : State) (page : Byte) : Keeps s (s.getStatus page) :=
  .ite (fun _ => respond_keeps ..) fun _ => .ite (fun _ => respond_keeps ..) fun _ => .ite (fun _ => respond_keeps ..)
    fun _ => respond_keeps ..

theorem getCounters_keeps (s : State) (group : Byte) : Keeps s (s.getCounters group) := by
  simp only [State.getCounters]
  split <;> exact respond_keeps ..

theorem readSlot_keeps (s : State) (slot : Byte) : Keeps s (s.readSlot slot) := by
  simp only [State.readSlot]
  split <;> exact respond_keeps ..

theorem readCursor_keeps (s : State) (rank bank : Byte) : Keeps s (s.readCursor rank bank) := by
  simp only [State.readCursor]
  split <;> exact respond_keeps ..

theorem readMirror_keeps (s : State) (index : Byte) : Keeps s (s.readMirror index) := by
  simp only [State.readMirror]
  split <;> exact respond_keeps ..

theorem readTracker_keeps (s : State) (position : Byte) : Keeps s (s.readTracker position) :=
  .ite (fun _ => respond_keeps ..) fun _ => respond_keeps ..

theorem clearCounters_keeps (s : State) : Keeps s (State.ok { s with counters := .zero } []) :=
  (onCounters_keeps s fun _ => .zero).trans (respond_keeps ..)

theorem retireRowNoCopy_keeps (s : State) (rank bank : Byte) (row : BitVec 16) :
    KeepsOn s (execRetireRowNoCopy rank bank row s) := by
  refine .unlessReset ?_
  split
  · exact retireNoCopy_keeps ..
  · exact respond_keeps ..

/-! ### Every command and every step -/

theorem exec_keeps (c : Instr) (s : State) : KeepsOn s (exec c s) :=
  match c with
  | .read tag la => .unlessReset (takeReadRequest_keeps s tag la)
  | .write tag la data => .unlessReset (takeWriteRequest_keeps s tag la data)
  | .maskedWrite tag la enables data =>
    .unlessReset (.ite (fun _ => takeWriteRequest_keeps s tag la data) fun _ => takeMaskedRequest_keeps s tag la enables data)
  | .credit => .unlessReset (sendCredit_keeps s)
  | .issueRead tag => .unlessReset (issueWaiting_keeps s tag)
  | .mergeReadIssue tag => .unlessReset (issueMergeRead_keeps s tag)
  | .writeEntryIssue la => .unlessReset (issueEntry_keeps s la)
  | .hostReadComplete k b d => hostReadComplete_keeps s k b d
  | .failoverReadComplete k b d => failoverReadComplete_keeps s k b d
  | .mergeReadComplete k b d => mergeReadComplete_keeps s k b d
  | .entryWriteComplete k b => entryWriteComplete_keeps s k b
  | .schedulerGrant k => .next (grantOn_keeps _ s k none)
  | .repairWriteComplete k b => repairWriteComplete_keeps s k b
  | .scrubWriteComplete k b => scrubWriteComplete_keeps s k b
  | .refreshComplete k => .next (refreshDone_keeps s k)
  | .refreshTimerExpiry k => .unlessReset (refreshExpiry_keeps s k)
  | .patrolTimerExpiry => .unlessReset (patrolExpiry_keeps s)
  | .patrolReadComplete k b d => patrolReadComplete_keeps s k b d
  | .jobStart => .unlessReset (startJob_keeps s)
  | .lineStepBegin => .unlessReset (beginStep_keeps s)
  | .moveReadComplete k b d => moveReadComplete_keeps s k b d
  | .targetWriteComplete k b => targetWriteComplete_keeps s k b
  | .qreqAssert => .next (requestQuiet_keeps s)
  | .qreqDeassert => .next (withdrawQuiet_keeps s)
  | .drainComplete => .unlessReset (completeDrain_keeps s)
  | .selfRefreshEntryComplete k => .next (entryDone_keeps s k)
  | .selfRefreshExitComplete k => .next (exitDone_keeps s k)
  | .rankInitComplete k => .next (initDone_keeps s k)
  | .powerOnReset straps => .next (powerOn_keeps s straps)
  | .warmResetAssert => .next (assertReset_keeps s)
  | .warmResetRelease => .next (releaseReset_keeps s)
  | .getStatus page => .unlessReset (getStatus_keeps s page)
  | .getCounters group => .unlessReset (getCounters_keeps s group)
  | .clearCounters => .unlessReset (clearCounters_keeps s)
  | .stageRegion index valid rank first last policy patrol threshold =>
    .unlessReset (stageRegion_keeps s index valid rank first last policy patrol threshold)
  | .readRegion index selector => .unlessReset (readRegion_keeps s index selector)
  | .commitRegions => .unlessReset (commitRegions_keeps s)
  | .readSlot slot => .unlessReset (readSlot_keeps s slot)
  | .retireRow rank bank row flag => .unlessReset (retireRow_keeps s rank bank row flag)
  | .retireRowNoCopy rank bank row => retireRowNoCopy_keeps s rank bank row
  | .releaseSlot slot => .unlessReset (releaseSlot_keeps s slot)
  | .readCursor rank bank => .unlessReset (readCursor_keeps s rank bank)
  | .readMirror index => .unlessReset (readMirror_keeps s index)
  | .failSide index side => .unlessReset (failSide_keeps s index side)
  | .resyncRegion index => .unlessReset (resyncRegion_keeps s index)
  | .setPatrol interval => .unlessReset ((Keeps.aside s { s.patrol with interval := interval } ..).trans (respond_keeps ..))
  | .readTracker position => .unlessReset (readTracker_keeps s position)
  | .popEvent => .unlessReset (popEvent_keeps s)
  | .peekEvent => .unlessReset (peekEvent_keeps s)
  | .setAlertMask mask => .unlessReset (setAlertMask_keeps s mask)
  | .openFront => .unlessReset (openFront_keeps s)
  | .closeFront => .unlessReset (closeFront_keeps s)
  | .commandFrameInvalid frame => .unlessReset (frameInvalid_keeps s frame)

/-- A step keeps every invariant: the command taken from the queue does, and no invariant speaks of the queue. -/
theorem keeps_of_step {s t : State} (h : step s = .next t) :
    (s.StoreSound → t.StoreSound) ∧ (s.log.Sound → t.log.Sound) ∧ (s.front.Sound → t.front.Sound)
      ∧ (s.RanksSound → t.RanksSound) ∧ (s.TrackerSound → t.TrackerSound) ∧ (s.RegionsSound → t.RegionsSound)
      ∧ (s.HomesApart → t.HomesApart) ∧ (s.RegionsSound → s.HomesApart → s.SparesSound → t.SparesSound)
      ∧ (s.JobsSound → t.JobsSound) := by
  simp only [step] at h
  split at h
  · obtain rfl := Host.Outcome.next.inj h
    exact ⟨id, id, id, id, id, id, id, fun _ _ => id, id⟩
  next c rest _ =>
    obtain ⟨u, answered, keeps⟩ := exec_keeps c { s with pending := rest }
    obtain rfl := Host.Outcome.next.inj (h.symm.trans answered)
    exact ⟨keeps.store, keeps.log, keeps.front, keeps.ranks, keeps.tracker, keeps.regions, keeps.homes, keeps.spares,
      keeps.jobs⟩

/-- Settles O2: along the dispatch, each command's meaning is a next state. -/
theorem everyCommandAnswers : Obligations.EveryCommandAnswers := by
  unfold Obligations.EveryCommandAnswers
  intro c s
  obtain ⟨t, answered, keeps⟩ := exec_keeps c s
  exact ⟨t, answered, keeps.pending⟩

/-- Settles O11: a rank write puts one line in its place by number, and a number names one location. -/
theorem storeKeepsItsForm : Obligations.StoreKeepsItsForm := by
  unfold Obligations.StoreKeepsItsForm
  refine ⟨fun s t sound stepped => (keeps_of_step stepped).1 sound, fun s l f _ => ⟨?_, fun m other => ?_⟩⟩
  · simp only [State.lineAt, State.storeForm, Store.find_write_same]
  · simp only [State.lineAt, State.storeForm,
      Store.find_write_other _ _ _ _ fun same => other (Loc.number_inj _ _ same)]

/-- Settles O18. -/
theorem frontLinkStaysSound : Obligations.FrontLinkStaysSound := by
  unfold Obligations.FrontLinkStaysSound
  intro s t sound stepped
  obtain ⟨-, -, front, -⟩ := keeps_of_step stepped
  exact front sound

/-- Settles O32. -/
theorem rankSchedulersStaySound : Obligations.RankSchedulersStaySound := by
  unfold Obligations.RankSchedulersStaySound
  intro s t sound stepped
  obtain ⟨-, -, -, ranks, -⟩ := keeps_of_step stepped
  exact ranks sound

/-- Settles O38. -/
theorem trackerStaysSound : Obligations.TrackerStaysSound := by
  unfold Obligations.TrackerStaysSound
  intro s t sound stepped
  obtain ⟨-, -, -, -, tracker, -⟩ := keeps_of_step stepped
  exact tracker sound

/-- Settles O42. -/
theorem jobsAndSlotsStaySound : Obligations.JobsAndSlotsStaySound := by
  unfold Obligations.JobsAndSlotsStaySound
  refine ⟨fun s t sound stepped => ?_, fun s t apart stepped => ?_⟩
  all_goals obtain ⟨-, -, -, -, -, -, homes, -, jobs⟩ := keeps_of_step stepped
  · exact jobs sound
  · exact homes apart

/-- Settles O50. -/
theorem regionsStaySound : Obligations.RegionsStaySound := by
  unfold Obligations.RegionsStaySound
  intro s t sound stepped
  obtain ⟨-, -, -, -, -, regions, -⟩ := keeps_of_step stepped
  exact regions sound

/-- Settles O52. -/
theorem sparesStaySound : Obligations.SparesStaySound := by
  unfold Obligations.SparesStaySound
  intro s t regions apart sound stepped
  obtain ⟨-, -, -, -, -, -, -, spares, -⟩ := keeps_of_step stepped
  exact spares regions apart sound

/-- Settles O59: the log takes an offer while it has room, and counts it lost when it is full. -/
theorem eventLogStaysSound : Obligations.EventLogStaysSound := by
  unfold Obligations.EventLogStaysSound
  refine ⟨fun s t sound stepped => ?_, fun l e _ => ⟨fun room => ?_, fun full => ?_⟩⟩
  · obtain ⟨-, log, -⟩ := keeps_of_step stepped
    exact log sound
  · rw [l.offer_room e room]
    exact ⟨rfl, rfl, rfl, rfl⟩
  · exact l.offer_full e (by omega)

end Sys2Proof.Machine
end

section
/-! PROOFS. What no command but those of quiesce, of the resets and of the grants touches: the quiesce state, QACK_N, RESET_N
and the rank-wide operations (R142, R148 to R152). One lemma for each operation. -/

namespace Sys2Proof.Machine

/-- What a rank is doing as a whole. -/
def RankSched.wides (r : RankSched) : RankState × Option WideOp × Option WideOp := (r.state, r.widePlaced, r.wide)

/-- The quiesce controller with its pins, and what each rank is doing as a whole. -/
def State.wides (s : State) : QuiesceState × Bool × Bool × (RankNo → RankState × Option WideOp × Option WideOp) :=
  (s.quiesce, s.qack, s.resetN, fun k => (s.ranks[k]).wides)

/-- A change of the ranks that leaves what each is doing as a whole. -/
theorem wides_ranks (s : State) (v : Vector RankSched 4) (same : ∀ k : RankNo, (v[k]).wides = (s.ranks[k]).wides) :
    State.wides { s with ranks := v } = s.wides := by
  simp only [State.wides, same]

theorem wides_onRank (s : State) (k : RankNo) (f : RankSched → RankSched) (same : (f s.ranks[k]).wides = (s.ranks[k]).wides) :
    (s.onRank k f).wides = s.wides := by
  refine wides_ranks s _ fun n => ?_
  rw [getElem_set]
  split
  next here => rw [here, same]
  next => rfl

/-! ### The shared operations -/

section
variable (s : State)

theorem wides_withFront (f : FrontLink) : State.wides { s with front := f } = s.wides := rfl
theorem wides_withEngine (e : Engine) : State.wides { s with engine := e } = s.wides := rfl
theorem wides_withPatrol (p : Patrol) : State.wides { s with patrol := p } = s.wides := rfl
@[simp] theorem wides_offer (e : Event) : (s.offer e).wides = s.wides := rfl
@[simp] theorem wides_send (m : HostMsg) : (s.send m).wides = s.wides := rfl
@[simp] theorem wides_respond (r : Result) (p : List Byte) : (s.respond r p).wides = s.wides := rfl
@[simp] theorem wides_onCounters (f : Counters → Counters) : (s.onCounters f).wides = s.wides := rfl
@[simp] theorem wides_storeForm (l : Loc) (f : LineForm) : (s.storeForm l f).wides = s.wides := rfl
@[simp] theorem wides_setSlot (i : SlotIx) (e : Option SlotEntry) : (s.setSlot i e).wides = s.wides := rfl
@[simp] theorem wides_setMirror (i : RegionIx) (m : Option MirrorRecord) : (s.setMirror i m).wides = s.wides := rfl
@[simp] theorem wides_setQueue (q : List QueueEntry) : (s.setQueue q).wides = s.wides := rfl
@[simp] theorem wides_forgetRow (r : PhysRow) : (s.forgetRow r).wides = s.wides := rfl
@[simp] theorem wides_appendJob (r : JobRef) : (s.appendJob r).wides = s.wides := rfl
@[simp] theorem wides_removeJob (r : JobRef) : (s.removeJob r).wides = s.wides := rfl
@[simp] theorem wides_patrolDone : s.patrolDone.wides = s.wides := rfl
@[simp] theorem wides_patrolMore : s.patrolMore.wides = s.wides := rfl
@[simp] theorem wides_onPatrolStep (f : PatrolStep → PatrolStep) : (s.onPatrolStep f).wides = s.wides := rfl
@[simp] theorem wides_holdOnStep (la : LineAddr) : (s.holdOnStep la).wides = s.wides := rfl
@[simp] theorem wides_setRead (tag : Tag) (st : ReadState) : (s.setRead tag st).wides = s.wides := rfl
@[simp] theorem wides_takeRead : s.takeRead.wides = s.wides := rfl
@[simp] theorem wides_track (tag : Tag) (la : LineAddr) (st : ReadState) : (s.track tag la st).wides = s.wides := rfl
@[simp] theorem wides_enqueue (la : LineAddr) (st : EntryState) : (s.enqueue la st).wides = s.wides := rfl
@[simp] theorem wides_setNewest (la : LineAddr) (st : EntryState) : (s.setNewest la st).wides = s.wides := rfl
@[simp] theorem wides_setOldest (la : LineAddr) (st : EntryState) : (s.setOldest la st).wides = s.wides := rfl

@[simp] theorem wides_oweReads (n : Nat) : (s.oweReads n).wides = s.wides := by
  simp only [State.oweReads]
  split <;> rfl

@[simp] theorem wides_oweWrite : s.oweWrite.wides = s.wides := by
  simp only [State.oweWrite]
  split <;> rfl

@[simp] theorem wides_dropOldest (la : LineAddr) : (s.dropOldest la).wides = s.wides := wides_oweWrite _

@[simp] theorem wides_sense (l : Loc) (d : Option StoredLine) : (s.sense l d).1.wides = s.wides := by
  rw [s.sense_eq]
  rfl

@[simp] theorem wides_place (o : LineOp) : (s.place o).wides = s.wides := wides_onRank s _ _ rfl

@[simp] theorem wides_freeBank (k : RankNo) (b : BankNo) : (s.freeBank k b).wides = s.wides := wides_onRank s _ _ rfl

@[simp] theorem wides_notice (la : LineAddr) (there : Loc → Bool) : (s.notice la there).wides = s.wides :=
  
  wides_ranks s _ fun k => (congrArg RankSched.wides (getElem_mapV (RankSched.noticed la there) s.ranks k)).trans rfl

@[simp] theorem wides_takeWrite (la : LineAddr) : (s.takeWrite la).wides = s.wides := by
  rw [s.takeWrite_eq]
  exact (wides_withFront _ _).trans (wides_notice s la _)

@[simp] theorem wides_placeEntryWrite (la : LineAddr) (f : LineForm) (l : Loc) :
    (State.placeEntryWrite la f s l).wides = s.wides := by
  rw [s.placeEntryWrite_eq]
  simp

end

theorem wides_foldl {α : Type} (f : State → α → State) (each : ∀ s a, (f s a).wides = s.wides) (l : List α) (s : State) :
    (l.foldl f s).wides = s.wides := by
  induction l generalizing s with
  | nil => rfl
  | cons a as ih => rw [List.foldl_cons, ih, each]

/-! ### The front link and the write queue -/

section
variable (s : State)

@[simp] theorem wides_passEntry (la : LineAddr) (f : LineForm) : (s.passEntry la f).wides = s.wides := by
  simp only [State.passEntry]
  split
  · simp
  · simp
  · rw [wides_setOldest, wides_foldl _ fun s l => wides_placeEntryWrite s la f l]

@[simp] theorem wides_releaseHeld (held : Option LineAddr) : (s.releaseHeld held).wides = s.wides := by
  simp only [State.releaseHeld]
  split
  · rfl
  · split <;> simp

@[simp] theorem wides_answerRead (tag : Tag) (d : LineData) (o : ReadResult) : (s.answerRead tag d o).wides = s.wides := by
  simp only [State.answerRead]
  split
  · exact wides_oweReads _ _
  · rfl

@[simp] theorem wides_answerMerge (tag : Tag) (f : LineForm) : (s.answerMerge tag f).wides = s.wides := by
  simp only [State.answerMerge]
  refine (wides_oweReads _ _).trans ?_
  exact wides_foldl (fun (s : State) (t : TrackedRead) => s.send (.readData t.tag (formData f) (formResult f))) (fun _ _ => rfl) _ _

@[simp] theorem wides_completeMerge (tag : Tag) (base : LineForm) : (s.completeMerge tag base).wides = s.wides := by
  simp only [State.completeMerge]
  rw [wides_foldl _ fun (s : State) (x : Tag × LineForm) => wides_answerMerge s x.1 x.2, wides_setQueue]

@[simp] theorem wides_answer (merge : Bool) (tag : Tag) (rd : Reading) : (s.answer merge tag rd).wides = s.wides := by
  simp only [State.answer]
  split <;> simp

@[simp] theorem wides_refuseRequest (tag : Tag) (la : LineAddr) (why : FrontReason) :
    (s.refuseRequest tag la why).wides = s.wides := by
  simp only [State.refuseRequest]
  split <;> simp

@[simp] theorem wides_acceptRead (tag : Tag) (la : LineAddr) : (s.acceptRead tag la).wides = s.wides := by
  simp only [State.acceptRead]
  split
  · simp
  · split <;> simp

@[simp] theorem wides_acceptWrite (tag : Tag) (la : LineAddr) (data : LineData) :
    (s.acceptWrite tag la data).wides = s.wides := by
  simp only [State.acceptWrite]
  split <;> simp

@[simp] theorem wides_acceptMasked (tag : Tag) (la : LineAddr) (enables : BitVec 64) (data : LineData) :
    (s.acceptMasked tag la enables data).wides = s.wides := by
  simp only [State.acceptMasked]
  split
  · simp
  · split <;> simp

@[simp] theorem wides_takeReadRequest (tag : Tag) (la : LineAddr) : (s.takeReadRequest tag la).wides = s.wides := by
  simp only [State.takeReadRequest]
  split <;> simp

@[simp] theorem wides_takeWriteRequest (tag : Tag) (la : LineAddr) (data : LineData) :
    (s.takeWriteRequest tag la data).wides = s.wides := by
  simp only [State.takeWriteRequest]
  split <;> simp

@[simp] theorem wides_takeMaskedRequest (tag : Tag) (la : LineAddr) (enables : BitVec 64) (data : LineData) :
    (s.takeMaskedRequest tag la enables data).wides = s.wides := by
  simp only [State.takeMaskedRequest]
  split <;> simp

@[simp] theorem wides_issueWaiting (tag : Tag) : (s.issueWaiting tag).wides = s.wides := by
  simp only [State.issueWaiting]
  split <;> simp

@[simp] theorem wides_issueMergeRead (tag : Tag) : (s.issueMergeRead tag).wides = s.wides := by
  simp only [State.issueMergeRead]
  split
  · rfl
  · split
    · split <;> simp
    · rfl

@[simp] theorem wides_issueEntry (la : LineAddr) : (s.issueEntry la).wides = s.wides := by
  simp only [State.issueEntry]
  split
  · split <;> simp
  · rfl

@[simp] theorem wides_entryWriteDone (la : LineAddr) : (s.entryWriteDone la).wides = s.wides := by
  simp only [State.entryWriteDone]
  split
  · split <;> simp
  · rfl

@[simp] theorem wides_sendCredit : s.sendCredit.wides = s.wides := by
  simp only [State.sendCredit]
  split <;> rfl

@[simp] theorem wides_initialCredit : s.initialCredit.wides = s.wides := rfl

@[simp] theorem wides_startCredits : s.startCredits.wides = s.wides := by
  simp only [State.startCredits]
  split
  · rfl
  · split <;> rfl

/-! ### Retirements and side counts -/

@[simp] theorem wides_restartJob (ref : JobRef) (source target : PhysRow) : (s.restartJob ref source target).wides = s.wides := by
  simp only [State.restartJob]
  split
  · rfl
  · exact wides_releaseHeld _ _

@[simp] theorem wides_closeJob (ref : JobRef) : (s.closeJob ref).wides = s.wides := by
  simp only [State.closeJob]
  split
  · rfl
  · split
    · rfl
    · exact wides_releaseHeld _ _

theorem wides_allocate {k : RankNo} {b : BankNo} {spare : RowNo} {t : State} (h : s.allocate k b = some (spare, t)) :
    t.wides = s.wides := by
  simp only [State.allocate] at h
  split at h
  · cases h
  · obtain ⟨-, rfl⟩ := Prod.mk.inj (Option.some.inj h)
    rfl

@[simp] theorem wides_acceptRetire (i : SlotIx) (r : PhysRow) (c : Cause) (a : Action) (spare : RowNo) :
    (s.acceptRetire i r c a spare).1.wides = s.wides := rfl

@[simp] theorem wides_refuseRetire (fromPort : Bool) (r : PhysRow) (why : RetireReason) :
    (s.refuseRetire fromPort r why).1.wides = s.wides := by
  simp only [State.refuseRetire]
  split <;> rfl

@[simp] theorem wides_retarget (fromPort : Bool) (r : PhysRow) (i : SlotIx) (e : SlotEntry) :
    (s.retarget fromPort r i e).1.wides = s.wides := by
  simp only [State.retarget]
  split
  · simp
  next taken => simp [wides_allocate s taken]

@[simp] theorem wides_replaceTarget (fromPort : Bool) (r : PhysRow) (i : SlotIx) (e : SlotEntry) :
    (s.replaceTarget fromPort r i e).1.wides = s.wides := by
  simp only [State.replaceTarget]
  split
  next taken => split <;> simp [wides_allocate s taken]
  · split <;> simp

@[simp] theorem wides_newRetirement (fromPort : Bool) (c : Cause) (r : PhysRow) :
    (s.newRetirement fromPort c r).1.wides = s.wides := by
  simp only [State.newRetirement]
  split
  · split
    · simp
    · split
      · simp
      next taken => simp [wides_allocate s taken]
  · simp

@[simp] theorem wides_retire (fromPort : Bool) (c : Cause) (r : PhysRow) : (s.retire fromPort c r).1.wides = s.wides := by
  simp only [State.retire]
  split
  · simp
  · split <;> simp
  · simp
  · simp

@[simp] theorem wides_retireInternal (c : Cause) (r : PhysRow) : (s.retireInternal c r).wides = s.wides := wides_retire ..

@[simp] theorem wides_correctedReport (r : PhysRow) (i : RegionIx) : (s.correctedReport r i).wides = s.wides := by
  rcases s.correctedReport_cases r i with same | same | same | ⟨t, same⟩ <;> rw [same]
  · simp
  · simp
  · rfl

@[simp] theorem wides_sideReport (i : RegionIx) (x : Side) (born : Nat) : (s.sideReport i x born).wides = s.wides := by
  rw [s.sideReport_frame]
  rfl

@[simp] theorem wides_formRepair (la : LineAddr) (i : RegionIx) (side : Side) (data : LineData) (mark patrol : Bool) :
    (s.formRepair la i side data mark patrol).1.wides = s.wides := by
  rw [s.formRepair_eq]
  split <;> simp

/-! ### Completions of reads -/

@[simp] theorem wides_reportRead (merge : Bool) (cls : RouteClass) (l : Loc) (o : ReadOutcome) :
    (s.reportRead merge cls l o).wides = s.wides := by
  simp only [State.reportRead]
  split
  · rfl
  · rfl
  · split <;> simp
  · split <;> simp

@[simp] theorem wides_requestReadDone (merge : Bool) (tag : Tag) (cls : RouteClass) (la : LineAddr) (l : Loc)
    (rd : Reading) : (s.requestReadDone merge tag cls la l rd).wides = s.wides := by
  simp only [State.requestReadDone]
  split <;> simp

@[simp] theorem wides_failoverDone (tag : Tag) (merge : Bool) (i : RegionIx) (born : Nat) (la : LineAddr) (l : Loc)
    (mark : Bool) (rd : Reading) : (s.failoverDone tag merge i born la l mark rd).wides = s.wides := by
  simp only [State.failoverDone]
  split <;> simp

@[simp] theorem wides_formScrub (la : LineAddr) (l : Loc) (data : LineData) (mark : Bool) :
    (s.formScrub la l data mark).wides = s.wides := by
  simp only [State.formScrub]
  split <;> simp

@[simp] theorem wides_patrolEvent (l : Loc) : (s.patrolEvent l).wides = s.wides := rfl

@[simp] theorem wides_patrolSide (i : RegionIx) (side : Side) (born : Nat) (la : LineAddr) (l : Loc) (mark : Bool)
    (rd : Reading) : (s.patrolSide i side born la l mark rd).wides = s.wides := by
  simp only [State.patrolSide]
  split <;> simp

@[simp] theorem wides_patrolSingle (p : PatrolStep) (la : LineAddr) (l : Loc) (mark : Bool) (rd : Reading) :
    (s.patrolSingle p la l mark rd).wides = s.wides := by
  simp only [State.patrolSingle]
  split
  · split <;> simp
  · split <;> simp
  · simp
  · rfl

@[simp] theorem wides_patrolRepair (la : LineAddr) (i : RegionIx) (side : Side) (data : LineData) (mark : Bool) :
    (s.patrolRepair la i side data mark).wides = s.wides := by
  simp only [State.patrolRepair]
  split <;> simp

@[simp] theorem wides_pairRepair (p : PatrolStep) (born : Nat) (mark : Bool) (rd : Reading) :
    (s.pairRepair p born mark rd).wides = s.wides := by
  simp only [State.pairRepair]
  split
  · rfl
  · split
    · split
      · simp
      · split <;> simp
    · rfl

@[simp] theorem wides_pairFirst (p : PatrolStep) (born : Nat) (la : LineAddr) (l : Loc) (mark : Bool) (rd : Reading) :
    (s.pairFirst p born la l mark rd).wides = s.wides := by
  simp [State.pairFirst]

@[simp] theorem wides_pairSecond (p : PatrolStep) (born : Nat) (la : LineAddr) (l : Loc) (mark : Bool) (rd : Reading) :
    (s.pairSecond p born la l mark rd).wides = s.wides := by
  simp [State.pairSecond]

@[simp] theorem wides_patrolReadDone (turn : PatrolTurn) (la : LineAddr) (l : Loc) (mark : Bool) (rd : Reading) :
    (s.patrolReadDone turn la l mark rd).wides = s.wides := by
  simp only [State.patrolReadDone]
  split
  · rfl
  · rw [wides_patrolDone]
    split <;> simp

/-! ### Patrol expiries and the move engine -/

@[simp] theorem wides_endPass : s.endPass.wides = s.wides := rfl
@[simp] theorem wides_setCursor (c : Option (RegionIx × Nat)) : (s.setCursor c).wides = s.wides := rfl

@[simp] theorem wides_startPatrol (i : RegionIx) (q : Nat) : (s.startPatrol i q).wides = s.wides := by
  simp only [State.startPatrol]
  split
  · rfl
  · exact (wides_withPatrol _ _).trans (wides_place _ _)

@[simp] theorem wides_chooseAt (i : RegionIx) (q : Nat) : (s.chooseAt i q).wides = s.wides := by
  simp only [State.chooseAt]
  split <;> simp

@[simp] theorem wides_patrolExpiry : s.patrolExpiry.wides = s.wides := by
  simp only [State.patrolExpiry]
  split
  · rfl
  · split
    · simp
    · split
      · rfl
      · simp only [State.takeExpiry]
        split
        · simp
        · split <;> simp

@[simp] theorem wides_beginJob (ref : JobRef) (ends : JobEnds) (length : Nat) (rest : List JobRef) :
    (s.beginJob ref ends length rest).wides = s.wides := rfl

@[simp] theorem wides_startJob : s.startJob.wides = s.wides := by
  simp only [State.startJob]
  split
  · split
    · rfl
    · simp only [State.startRowMove]
      split <;> simp
    · simp only [State.startResync]
      split
      · rfl
      · split <;> simp
  · rfl

@[simp] theorem wides_beginStep : s.beginStep.wides = s.wides := by
  simp only [State.beginStep]
  split
  · split
    · rfl
    · split
      · split
        · rfl
        · split
          · rfl
          · exact (wides_withEngine _ _).trans (wides_place _ _)
      · rfl
  · rfl

@[simp] theorem wides_loseLine (j : Job) (st : LineStep) : (s.loseLine j st).wides = s.wides := by
  simp only [State.loseLine]
  split
  · rw [wides_offer]
    split <;> rfl
  · split
    · rfl
    · rw [wides_sideReport]
      rfl
  · rfl

@[simp] theorem wides_moveReadDone (rd : Reading) : (s.moveReadDone rd).wides = s.wides := by
  simp only [State.moveReadDone]
  split
  · rfl
  · split
    · rfl
    · split
      · exact (wides_loseLine _ _ _).trans ((wides_withEngine _ _).trans (wides_place _ _))
      · exact (wides_withEngine _ _).trans (wides_place _ _)

@[simp] theorem wides_rowMoveDone (i : SlotIx) : (s.rowMoveDone i).wides = s.wides := by
  simp only [State.rowMoveDone]
  split
  · rfl
  · split <;> rfl

@[simp] theorem wides_resyncDone (i : RegionIx) (lost : Nat) : (s.resyncDone i lost).wides = s.wides := by
  simp only [State.resyncDone]
  split <;> rfl

@[simp] theorem wides_completeJob (j : Job) : (s.completeJob j).wides = s.wides := by
  simp only [State.completeJob]
  split
  · exact wides_rowMoveDone _ _
  · exact wides_resyncDone _ _ _

@[simp] theorem wides_endStep : s.endStep.wides = s.wides := by
  simp only [State.endStep]
  split
  · rfl
  · split
    · rfl
    · split
      · split <;> rfl
      · split
        · simp
        · exact wides_releaseHeld _ _

end

end Sys2Proof.Machine
end

section
/-! PROOFS. Rest: a state without work held keeps none, at every command but those that place work, which ENTERING and ASLEEP
do not let through (R39, R101, R103, R131, R149). -/

namespace Sys2Proof.Machine

theorem State.still_iff (s : State) :
    s.still = true ↔ s.front.tracker = [] ∧ s.front.queue = [] ∧ s.engine.stepInFlight = false ∧ s.patrol.step = none
      ∧ ∀ k : RankNo, (s.ranks[k]).noLineOp = true := by
  simp only [State.still, Bool.and_eq_true, List.isEmpty_iff, Bool.not_eq_true', Option.isNone_iff_eq_none, List.all_eq_true,
    Vector.mem_toList_iff, and_assoc]
  refine and_congr Iff.rfl (and_congr Iff.rfl (and_congr Iff.rfl (and_congr Iff.rfl ⟨fun all k => ?_, fun all r hr => ?_⟩)))
  · exact all _ (Vector.getElem_mem k.isLt)
  · obtain ⟨k, hk, rfl⟩ := Vector.mem_iff_getElem.1 hr
    exact all ⟨k, hk⟩

/-- The quiesce controller, the ranks' own operations and, where it is, the rest of the block stay. -/
structure Calm (s t : State) : Prop where
  wides : t.wides = s.wides
  still : s.still = true → t.still = true

namespace Calm

variable {s t u : State}

theorem refl (s : State) : Calm s s := ⟨rfl, id⟩

theorem trans (h : Calm s t) (g : Calm t u) : Calm s u := ⟨g.wides.trans h.wides, g.still ∘ h.still⟩

/-- A change of what neither speaks of. -/
theorem of_eq (wides : t.wides = s.wides) (still : t.still = s.still) : Calm s t := ⟨wides, fun h => still ▸ h⟩

theorem ite {c : Prop} [Decidable c] (ht : c → Calm s t) (hu : ¬ c → Calm s u) : Calm s (if c then t else u) := by
  split
  next h => exact ht h
  next h => exact hu h

/-- Work in hand, the block is not at rest. -/
theorem of_busy (wides : t.wides = s.wides) (busy : s.still ≠ true) : Calm s t := ⟨wides, fun h => absurd h busy⟩

end Calm

section
variable (s : State)

theorem offer_calm (e : Event) : Calm s (s.offer e) := .of_eq rfl rfl
theorem respond_calm (r : Result) (p : List Byte) : Calm s (s.respond r p) := .of_eq rfl rfl
theorem onCounters_calm (f : Counters → Counters) : Calm s (s.onCounters f) := .of_eq rfl rfl
theorem setSlot_calm (i : SlotIx) (e : Option SlotEntry) : Calm s (s.setSlot i e) := .of_eq rfl rfl
theorem setMirror_calm (i : RegionIx) (m : Option MirrorRecord) : Calm s (s.setMirror i m) := .of_eq rfl rfl
theorem appendJob_calm (r : JobRef) : Calm s (s.appendJob r) := .of_eq rfl rfl
theorem removeJob_calm (r : JobRef) : Calm s (s.removeJob r) := .of_eq rfl rfl

/-- An engine without a step in flight where there was none. -/
theorem engine_calm (e : Engine) (rests : s.engine.stepInFlight = false → e.stepInFlight = false) :
    Calm s { s with engine := e } := by
  refine ⟨rfl, fun h => ?_⟩
  obtain ⟨tracker, queue, step, patrol, ops⟩ := s.still_iff.1 h
  exact (State.still_iff _).2 ⟨tracker, queue, rests step, patrol, ops⟩

/-- At rest no entry is held. -/
theorem releaseHeld_calm (held : Option LineAddr) : Calm s (s.releaseHeld held) := by
  refine ⟨wides_releaseHeld s held, fun h => ?_⟩
  obtain ⟨-, queue, -⟩ := s.still_iff.1 h
  cases held with
  | none => exact h
  | some la =>
    have none_held : s.oldestEntry la = none := by simp [State.oldestEntry, queue]
    simpa only [State.releaseHeld, none_held] using h

theorem restartJob_calm (ref : JobRef) (source target : PhysRow) : Calm s (s.restartJob ref source target) := by
  simp only [State.restartJob]
  split
  · exact .refl s
  next j found =>
    obtain ⟨job, -, -⟩ := s.jobFor_eq_some.1 found
    refine .trans (engine_calm s _ fun rests => ?_) (releaseHeld_calm _ _)
    simpa [Engine.stepInFlight, job] using rests

theorem closeJob_calm (ref : JobRef) : Calm s (s.closeJob ref) := by
  cases found : s.jobFor ref with
  | none =>
    rw [s.closeJob_none ref found]
    exact .refl s
  | some j =>
    rw [State.closeJob_eq_release found]
    obtain ⟨job, -, -⟩ := s.jobFor_eq_some.1 found
    refine .trans (engine_calm s _ fun rests => ?_) (releaseHeld_calm _ _)
    have stepless : j.step = none := by simpa [Engine.stepInFlight, job] using rests
    simp [Engine.closing, stepless, Engine.stepInFlight]

theorem allocate_calm {s : State} {k : RankNo} {b : BankNo} {spare : RowNo} {t : State}
    (h : s.allocate k b = some (spare, t)) : Calm s t := by
  refine ⟨wides_allocate s h, ?_⟩
  simp only [State.allocate] at h
  split at h
  · cases h
  · obtain ⟨-, rfl⟩ := Prod.mk.inj (Option.some.inj h)
    exact id

theorem acceptRetire_calm (i : SlotIx) (r : PhysRow) (c : Cause) (a : Action) (spare : RowNo) :
    Calm s (s.acceptRetire i r c a spare).1 := .of_eq rfl rfl

theorem refuseRetire_calm (fromPort : Bool) (r : PhysRow) (why : RetireReason) : Calm s (s.refuseRetire fromPort r why).1 :=
  .ite (fun _ => .refl s) fun _ => offer_calm s _

theorem retarget_calm (fromPort : Bool) (r : PhysRow) (i : SlotIx) (e : SlotEntry) : Calm s (s.retarget fromPort r i e).1 := by
  simp only [State.retarget]
  split
  · exact refuseRetire_calm ..
  next taken =>
    exact ((allocate_calm taken).trans ((setSlot_calm ..).trans (appendJob_calm ..))).trans (acceptRetire_calm ..)

theorem replaceTarget_calm (fromPort : Bool) (r : PhysRow) (i : SlotIx) (e : SlotEntry) :
    Calm s (s.replaceTarget fromPort r i e).1 := by
  simp only [State.replaceTarget]
  split
  next taken =>
    refine (allocate_calm taken).trans ?_
    split
    · exact ((setSlot_calm ..).trans (restartJob_calm ..)).trans (acceptRetire_calm ..)
    · exact (setSlot_calm ..).trans (acceptRetire_calm ..)
  · split
    · exact ((setSlot_calm ..).trans (closeJob_calm ..)).trans (refuseRetire_calm ..)
    · exact ((setSlot_calm ..).trans (removeJob_calm ..)).trans (refuseRetire_calm ..)

theorem newRetirement_calm (fromPort : Bool) (c : Cause) (r : PhysRow) : Calm s (s.newRetirement fromPort c r).1 := by
  simp only [State.newRetirement]
  split
  · split
    · exact refuseRetire_calm ..
    · split
      · exact refuseRetire_calm ..
      next taken =>
        exact ((allocate_calm taken).trans ((setSlot_calm ..).trans (appendJob_calm ..))).trans (acceptRetire_calm ..)
  · exact refuseRetire_calm ..

theorem retire_calm (fromPort : Bool) (c : Cause) (r : PhysRow) : Calm s (s.retire fromPort c r).1 := by
  simp only [State.retire]
  split
  · exact refuseRetire_calm ..
  · split
    · exact retarget_calm ..
    · exact .refl s
  · exact replaceTarget_calm ..
  · exact newRetirement_calm ..

theorem answerRetire_calm (r : State × RetireAnswer) : Calm r.1 (answerRetire r) := by
  simp only [answerRetire]
  split <;> exact respond_calm ..

theorem retireNoCopy_calm (r : PhysRow) : Calm s (s.retireNoCopy r) := by
  refine .ite (fun _ => respond_calm ..) fun _ => .ite (fun _ => respond_calm ..) fun _ => ?_
  split
  · exact respond_calm ..
  · split
    · simp only [State.retargetNoCopy]
      split
      · exact respond_calm ..
      next taken =>
        exact (((allocate_calm taken).trans (setSlot_calm ..)).trans (acceptRetire_calm ..)).trans (answerRetire_calm _)
    · exact respond_calm ..
  · exact respond_calm ..
  · refine .ite (fun _ => ?_) fun _ => respond_calm ..
    split
    · exact respond_calm ..
    · split
      · exact respond_calm ..
      next taken =>
        exact (((allocate_calm taken).trans (setSlot_calm ..)).trans (acceptRetire_calm ..)).trans (answerRetire_calm _)

theorem retireRow_calm (rank bank : Byte) (row : BitVec 16) (flag : Byte) : Calm s (s.retireRow rank bank row flag) := by
  simp only [State.retireRow]
  split
  · exact (retire_calm ..).trans (answerRetire_calm _)
  · exact retireNoCopy_calm ..
  · exact respond_calm ..

theorem releaseSlot_calm (slot : Byte) : Calm s (s.releaseSlot slot) := by
  simp only [State.releaseSlot]
  split
  · exact respond_calm ..
  · refine .ite (fun _ => respond_calm ..) fun _ => .ite (fun _ => respond_calm ..) fun _ => ?_
    split
    · exact (setSlot_calm ..).trans (respond_calm ..)
    · exact respond_calm ..

theorem failSide_calm (index side : Byte) : Calm s (s.failSide index side) := by
  simp only [State.failSide]
  split
  · split
    · exact respond_calm ..
    · split
      · exact respond_calm ..
      · exact ((((setMirror_calm ..).trans (removeJob_calm ..)).trans (closeJob_calm ..)).trans
          (offer_calm _ (.mirrorSideFailed _ _ .management))).trans (respond_calm ..)
  · exact respond_calm ..

theorem resyncRegion_calm (index : Byte) : Calm s (s.resyncRegion index) := by
  simp only [State.resyncRegion]
  split
  · exact respond_calm ..
  · split
    · exact respond_calm ..
    · split
      · exact respond_calm ..
      · exact ((setMirror_calm ..).trans (appendJob_calm ..)).trans (respond_calm ..)

theorem commitRegions_calm : Calm s s.commitRegions := by
  simp only [State.commitRegions]
  split <;> exact .of_eq rfl rfl

theorem stageRegion_calm (index valid rank : Byte) (first last : BitVec 16) (policy patrol threshold : Byte) :
    Calm s (s.stageRegion index valid rank first last policy patrol threshold) := by
  simp only [State.stageRegion]
  split <;> exact .of_eq rfl rfl

theorem openFront_calm : Calm s s.openFront := by
  refine .ite (fun _ => respond_calm ..) fun _ => .ite (fun _ => respond_calm ..) fun _ => ?_
  refine .trans (u := State.ok _ []) ?_ (respond_calm ..)
  exact .ite (fun _ => .of_eq rfl rfl) fun _ => .of_eq rfl rfl

theorem closeFront_calm : Calm s s.closeFront := .ite (fun _ => respond_calm ..) fun _ => .of_eq rfl rfl

theorem popEvent_calm : Calm s s.popEvent := by
  simp only [State.popEvent]
  split <;> exact .of_eq rfl rfl

theorem setAlertMask_calm (mask : BitVec 16) : Calm s (s.setAlertMask mask) :=
  .ite (fun _ => .of_eq rfl rfl) fun _ => respond_calm ..

theorem frameInvalid_calm (frame : List Byte) : Calm s (s.frameInvalid frame) := by
  refine .ite (fun _ => .refl s) fun _ => ?_
  split
  · exact respond_calm ..
  · exact .refl s

end

end Sys2Proof.Machine
end

section
/-! PROOFS. The quiesce controller, the ranks and QACK_N agree at every step (R142, R148 to R152): the commands of quiesce and
of the resets take each fitting state to a fitting one, and all others leave the agreement alone. -/

namespace Sys2Proof.Machine

/-! ### What a rank may be doing -/

namespace RankSched

variable {r r' : RankSched}

/-- What a rank may be doing under RESET_N where no initialization is owed. -/
def settled (r : RankSched) : Bool := r.serving || r.entryRuns || r.sleeping || r.exitRuns

/-- A rank that does what is allowed wherever what another does is. -/
def Eases (r r' : RankSched) : Prop :=
  (∀ q, r.fits q = true → r'.fits q = true) ∧ (r.settled = true → r'.settled = true)

theorem Eases.refl (r : RankSched) : r.Eases r := ⟨fun _ => id, id⟩

theorem Eases.trans {r'' : RankSched} (h : r.Eases r') (g : r'.Eases r'') : r.Eases r'' :=
  ⟨fun q => g.1 q ∘ h.1 q, g.2 ∘ h.2⟩

/-- What a rank may be doing depends on what it does as a whole. -/
theorem eases_of_wides (same : r'.wides = r.wides) : r.Eases r' := by
  obtain ⟨state, placed, wide⟩ : r'.state = r.state ∧ r'.widePlaced = r.widePlaced ∧ r'.wide = r.wide := by
    simpa [wides] using same
  simp only [Eases, fits, settled, starting, serving, entryWaits, entryRuns, sleeping, exitWaits, exitRuns, state, placed, wide,
    imp_self, implies_true, and_self]

theorem starting_iff : r.starting = true ↔
    r.state = .initializing ∧ ((r.widePlaced = some .init ∧ r.wide = none) ∨ (r.widePlaced = none ∧ r.wide = some .init)) := by
  simp [starting]

theorem serving_iff : r.serving = true ↔
    r.state = .operating ∧ r.widePlaced = none ∧ (r.wide = none ∨ r.wide = some .refresh) := by
  simp [serving, and_assoc]

theorem entryWaits_iff : r.entryWaits = true ↔
    r.state = .operating ∧ r.widePlaced = some .entry ∧ (r.wide = none ∨ r.wide = some .refresh) := by
  simp [entryWaits, and_assoc]

theorem entryRuns_iff : r.entryRuns = true ↔ r.state = .operating ∧ r.widePlaced = none ∧ r.wide = some .entry := by
  simp [entryRuns, and_assoc]

theorem sleeping_iff : r.sleeping = true ↔ r.state = .selfRefresh ∧ r.widePlaced = none ∧ r.wide = none := by
  simp [sleeping, and_assoc]

theorem exitWaits_iff : r.exitWaits = true ↔ r.state = .selfRefresh ∧ r.widePlaced = some .exit ∧ r.wide = none := by
  simp [exitWaits, and_assoc]

theorem exitRuns_iff : r.exitRuns = true ↔ r.state = .selfRefresh ∧ r.widePlaced = none ∧ r.wide = some .exit := by
  simp [exitRuns, and_assoc]

theorem settled_iff : r.settled = true ↔
    r.serving = true ∨ r.entryRuns = true ∨ r.sleeping = true ∨ r.exitRuns = true := by
  simp [settled, or_assoc]

theorem fits_init : r.fits .init = true ↔ r.starting = true ∨ r.serving = true := by simp [fits]
theorem fits_run : r.fits .run = true ↔ r.serving = true := Iff.rfl
theorem fits_draining : r.fits .draining = true ↔ r.serving = true := Iff.rfl
theorem fits_entering : r.fits .entering = true ↔ r.entryWaits = true ∨ r.entryRuns = true ∨ r.sleeping = true := by
  simp [fits, or_assoc]
theorem fits_asleep : r.fits .asleep = true ↔ r.sleeping = true := Iff.rfl
theorem fits_waking : r.fits .waking = true ↔
    r.exitWaits = true ∨ r.exitRuns = true ∨ r.serving = true ∨ r.entryRuns = true := by
  simp [fits, or_assoc]

/-- The cases of what a rank may be doing, for a rank that does one of them. -/
theorem eases_of_cases (starts : r.starting = true → r'.starting = true) (serves : r.serving = true → r'.serving = true)
    (waits : r.entryWaits = true → r'.entryWaits = true ∨ r'.entryRuns = true)
    (runs : r.entryRuns = true → r'.entryRuns = true) (sleeps : r.sleeping = true → r'.sleeping = true)
    (exits : r.exitWaits = true → r'.exitWaits = true ∨ r'.exitRuns = true)
    (exiting : r.exitRuns = true → r'.exitRuns = true) : r.Eases r' := by
  refine ⟨fun q => ?_, ?_⟩
  · cases q with
    | init => simp only [fits_init]; exact Or.imp starts serves
    | run => exact serves
    | draining => exact serves
    | entering =>
      rw [fits_entering, fits_entering]
      rintro (waiting | running | sleeping)
      · exact (waits waiting).imp id .inl
      · exact .inr (.inl (runs running))
      · exact .inr (.inr (sleeps sleeping))
    | asleep => exact sleeps
    | waking =>
      rw [fits_waking, fits_waking]
      rintro (waiting | leaving | serving | running)
      · exact (exits waiting).imp id .inl
      · exact .inr (.inl (exiting leaving))
      · exact .inr (.inr (.inl (serves serving)))
      · exact .inr (.inr (.inr (runs running)))
  · simp only [settled_iff]
    exact Or.imp serves (Or.imp runs (Or.imp sleeps exiting))

/-- A rank-wide operation granted is one placed, or a REFRESH on an OPERATING rank (R145, R147). -/
theorem decideGrant_wide {c : SlotChoice} {n : Nat} {w : WideOp} (h : r.decideGrant c n = .wide w) :
    r.wide = none ∧ (r.widePlaced = some w ∨ (w = .refresh ∧ r.widePlaced = none ∧ r.state = .operating)) := by
  simp only [decideGrant] at h
  split at h
  · cases h
  next idle =>
    refine ⟨by simpa using idle, ?_⟩
    split at h
    next placed =>
      split at h
      · obtain rfl := Grant.wide.inj h
        exact .inl placed
      · cases h
    next unplaced =>
      refine .inr ?_
      split at h
      · cases h
      next operating =>
        rw [ne_eq, not_not] at operating
        refine ⟨?_, unplaced, operating⟩
        split at h
        · split at h
          · exact (Grant.wide.inj h).symm
          · cases h
        · simp only [lineGrant] at h
          split at h
          · cases h
          · simp only [hostGrant] at h
            split at h
            · cases h
            · split at h
              · exact (Grant.wide.inj h).symm
              · simp only [lowGrant] at h
                split at h
                · cases h
                · split at h <;> cases h

/-- A rank-wide operation taken leaves the rank doing what it was about to. -/
theorem takeWide_eases {w : WideOp} (idle : r.wide = none)
    (due : r.widePlaced = some w ∨ (w = .refresh ∧ r.widePlaced = none ∧ r.state = .operating)) : r.Eases (r.takeWide w) := by
  rcases due with placed | ⟨rfl, unplaced, operating⟩
  · cases w <;> apply eases_of_cases <;>
      simp [starting_iff, serving_iff, entryWaits_iff, entryRuns_iff, sleeping_iff, exitWaits_iff, exitRuns_iff, takeWide,
        placed, idle]
  · apply eases_of_cases <;>
      simp [starting_iff, serving_iff, entryWaits_iff, entryRuns_iff, sleeping_iff, exitWaits_iff, exitRuns_iff, takeWide,
        unplaced, idle, operating]

/-- A REFRESH that completes. -/
theorem refreshed_eases (refresh : r.wide = some .refresh) : r.Eases { r with wide := none } := by
  apply eases_of_cases <;>
    simp_all [starting_iff, serving_iff, entryWaits_iff, entryRuns_iff, sleeping_iff, exitWaits_iff, exitRuns_iff]

end RankSched

/-! ### The agreement under a change that keeps it -/

/-- A state that does what is allowed wherever another does, with as much at rest. -/
structure Eases (s t : State) : Prop where
  quiesce : t.quiesce = s.quiesce
  qack : t.qack = s.qack
  resetN : t.resetN = s.resetN
  ranks : ∀ k : RankNo, (s.ranks[k]).Eases t.ranks[k]
  still : s.resetN = false → s.quiesce ≠ .run → s.still = true → t.still = true

theorem Eases.refl (s : State) : Eases s s := ⟨rfl, rfl, rfl, fun _ => .refl _, fun _ _ => id⟩

theorem Eases.trans {s t u : State} (h : Eases s t) (g : Eases t u) : Eases s u where
  quiesce := g.quiesce.trans h.quiesce
  qack := g.qack.trans h.qack
  resetN := g.resetN.trans h.resetN
  ranks k := (h.ranks k).trans (g.ranks k)
  still live out rest := g.still (h.resetN.trans live) (fun run => out (h.quiesce.symm.trans run)) (h.still live out rest)

/-- All but the rest of the block said in one equation. -/
theorem Eases.of_wides {s t : State} (same : t.wides = s.wides)
    (still : s.resetN = false → s.quiesce ≠ .run → s.still = true → t.still = true) : Eases s t := by
  simp only [State.wides, Prod.mk.injEq, funext_iff] at same
  obtain ⟨quiesce, qack, resetN, ranks⟩ := same
  exact ⟨quiesce, qack, resetN, fun k => RankSched.eases_of_wides (ranks k), still⟩

theorem Calm.eases {s t : State} (h : Calm s t) : Eases s t := .of_wides h.wides fun _ _ => h.still

/-- Work in hand, the block is not at rest. -/
theorem Eases.of_busy {s t : State} (same : t.wides = s.wides) (busy : s.still ≠ true) : Eases s t :=
  (Calm.of_busy same busy).eases

theorem State.quietSound_reset_iff {s : State} (h : s.resetN = true) :
    s.QuietSound ↔ s.qack = false
      ∧ ((∀ k : RankNo, (s.ranks[k]).fits .init = true) ∨ ∀ k : RankNo, (s.ranks[k]).settled = true) := by
  rw [State.QuietSound, if_pos h]
  exact Iff.rfl

theorem State.quietSound_live_iff {s : State} (h : s.resetN = false) :
    s.QuietSound ↔ s.qack = decide (s.quiesce = .asleep) ∧ (∀ k : RankNo, (s.ranks[k]).fits s.quiesce = true)
      ∧ (s.quiesce = .entering ∨ s.quiesce = .asleep → s.still = true) := by
  rw [State.QuietSound, if_neg (by simp [h])]

theorem Eases.quietSound {s t : State} (h : Eases s t) (sound : s.QuietSound) : t.QuietSound := by
  cases reset : s.resetN with
  | true =>
    rw [State.quietSound_reset_iff reset] at sound
    rw [State.quietSound_reset_iff (h.resetN.trans reset), h.qack]
    exact sound.imp id (Or.imp (fun fits k => (h.ranks k).1 _ (fits k)) fun fits k => (h.ranks k).2 (fits k))
  | false =>
    rw [State.quietSound_live_iff reset] at sound
    obtain ⟨qack, fits, still⟩ := sound
    rw [State.quietSound_live_iff (h.resetN.trans reset), h.qack, h.quiesce]
    refine ⟨qack, fun k => (h.ranks k).1 _ (fits k), fun out => h.still reset ?_ (still out)⟩
    rcases out with out | out <;> simp [out]

/-! ### Grants -/

theorem wides_placeWaitingScrub (s : State) : s.placeWaitingScrub.wides = s.wides := by
  simp only [State.placeWaitingScrub]
  split
  · rfl
  · split
    · rfl
    · exact wides_place _ _

theorem wides_discardAt (s : State) (k : RankNo) (i : Nat) (o : LineOp) : (s.discardAt k i o).wides = s.wides := by
  have erased : (s.onRank k fun r => { r with placed := r.placed.eraseIdx i }).wides = s.wides := wides_onRank s k _ rfl
  simp only [State.discardAt]
  split
  · split <;> exact erased
  · rw [wides_placeWaitingScrub]
    exact erased
  · exact erased

theorem wides_grantLine (s : State) (k : RankNo) (i : Nat) (o : LineOp) : (s.grantLine k i o).wides = s.wides := by
  have taken : (s.onRank k fun r => r.takeLine i o).wides = s.wides := wides_onRank s k _ rfl
  simp only [State.grantLine]
  split
  · rw [wides_placeWaitingScrub, taken]
  · exact taken

/-- One rank changed. -/
theorem onRank_eases (s : State) (k : RankNo) (f : RankSched → RankSched) (rank : (s.ranks[k]).Eases (f s.ranks[k]))
    (ops : (f s.ranks[k]).noLineOp = (s.ranks[k]).noLineOp) : Eases s (s.onRank k f) where
  quiesce := rfl
  qack := rfl
  resetN := rfl
  ranks n := by
    simp only [State.onRank, getElem_set]
    split
    next here => exact here ▸ rank
    next => exact .refl _
  still _ _ rest := by
    obtain ⟨tracker, queue, step, patrol, none_held⟩ := s.still_iff.1 rest
    refine (State.still_iff _).2 ⟨tracker, queue, step, patrol, fun n => ?_⟩
    simp only [State.onRank, getElem_set]
    split
    · rw [ops]
      exact none_held k
    · exact none_held n

theorem State.busy_of_placed {s : State} {k : RankNo} {i : Nat} {o : LineOp} (there : (s.ranks[k]).placed[i]? = some o) :
    s.still ≠ true := by
  intro rest
  obtain ⟨-, -, -, -, none_held⟩ := s.still_iff.1 rest
  have := none_held k
  simp only [RankSched.noLineOp, Bool.and_eq_true, List.isEmpty_iff] at this
  rw [this.1] at there
  cases there

theorem grantOn_eases (n : Nat) (s : State) (k : RankNo) (c : SlotChoice) : Eases s (State.grantOn n s k c) := by
  induction n generalizing s c with
  | zero => exact .refl s
  | succ n ih =>
    simp only [State.grantOn]
    split
    · exact .refl s
    next w decided =>
      obtain ⟨idle, due⟩ := RankSched.decideGrant_wide decided
      refine onRank_eases s k _ (RankSched.takeWide_eases idle due) ?_
      cases w <;> rfl
    next i o decided =>
      obtain ⟨there, -⟩ := RankSched.decideGrant_line _ _ _ _ _ decided
      have busy := State.busy_of_placed there
      split
      · exact (Eases.of_busy (wides_discardAt s k i o) busy).trans (ih _ _)
      · exact .of_busy (wides_grantLine s k i o) busy

end Sys2Proof.Machine
end

section
/-! PROOFS. The commands of quiesce and of the resets keep the controller, the ranks and QACK_N in agreement, and with them
every step does (R148 to R152). -/

namespace Sys2Proof.Machine

/-! ### Every rank of a state -/

theorem State.allRanks_iff (s : State) (x : RankState) : s.allRanks x = true ↔ ∀ k : RankNo, (s.ranks[k]).state = x := by
  simp only [State.allRanks, List.all_eq_true, Vector.mem_toList_iff, decide_eq_true_eq]
  refine ⟨fun all k => all _ (Vector.getElem_mem k.isLt), fun all r hr => ?_⟩
  obtain ⟨k, hk, rfl⟩ := Vector.mem_iff_getElem.1 hr
  exact all ⟨k, hk⟩

theorem State.noneChanging_iff (s : State) : s.noneChanging = true ↔ ∀ k : RankNo, (s.ranks[k]).changing = false := by
  simp only [State.noneChanging, List.all_eq_true, Vector.mem_toList_iff, Bool.not_eq_true']
  refine ⟨fun all k => all _ (Vector.getElem_mem k.isLt), fun all r hr => ?_⟩
  obtain ⟨k, hk, rfl⟩ := Vector.mem_iff_getElem.1 hr
  exact all ⟨k, hk⟩

theorem State.anyRank_iff (s : State) (x : RankState) :
    (s.ranks.toList.any fun r => decide (r.state = x)) = true ↔ ∃ k : RankNo, (s.ranks[k]).state = x := by
  simp only [List.any_eq_true, Vector.mem_toList_iff, decide_eq_true_eq]
  constructor
  · rintro ⟨r, hr, same⟩
    obtain ⟨k, hk, rfl⟩ := Vector.mem_iff_getElem.1 hr
    exact ⟨⟨k, hk⟩, same⟩
  · rintro ⟨k, same⟩
    exact ⟨_, Vector.getElem_mem k.isLt, same⟩

theorem onRanks_rank (s : State) (f : RankSched → RankSched) (k : RankNo) : (s.onRanks f).ranks[k] = f s.ranks[k] :=
  getElem_mapV ..

theorem onRank_rank (s : State) (k n : RankNo) (f : RankSched → RankSched) :
    (s.onRank k f).ranks[n] = if n = k then f s.ranks[k] else s.ranks[n] := getElem_set ..

/-! ### The parts a rank goes through -/

namespace RankSched

variable {r : RankSched}

theorem placeEntry_waits (h : r.serving = true) : (r.placeWide .entry).entryWaits = true := by
  obtain ⟨state, -, wide⟩ := serving_iff.1 h
  exact entryWaits_iff.2 ⟨state, rfl, wide⟩

theorem placeExit_waits (h : r.sleeping = true) : (r.placeWide .exit).exitWaits = true := by
  obtain ⟨state, -, wide⟩ := sleeping_iff.1 h
  exact exitWaits_iff.2 ⟨state, rfl, wide⟩

theorem entered_sleeps (h : r.entryRuns = true) : RankSched.sleeping { r with wide := none, state := .selfRefresh } = true := by
  obtain ⟨-, placed, -⟩ := entryRuns_iff.1 h
  exact sleeping_iff.2 ⟨rfl, placed, rfl⟩

theorem exited_serves (h : r.exitRuns = true) :
    RankSched.serving { r with wide := none, state := .operating, debt := 0, timerOn := true } = true := by
  obtain ⟨-, placed, -⟩ := exitRuns_iff.1 h
  exact serving_iff.2 ⟨rfl, placed, .inl rfl⟩

theorem inited_serves (h : r.starting = true) (init : r.wide = some .init) :
    RankSched.serving { r with wide := none, state := .operating, timerOn := true } = true := by
  obtain ⟨-, ⟨-, idle⟩ | ⟨placed, -⟩⟩ := starting_iff.1 h
  · rw [init] at idle
    cases idle
  · exact serving_iff.2 ⟨rfl, placed, .inl rfl⟩

/-- Entry runs only where entry may run. -/
theorem entryRuns_of_wide {q : QuiesceState} (h : r.fits q = true) (entry : r.wide = some .entry) :
    r.entryRuns = true ∧ (q = .entering ∨ q = .waking) := by
  cases q <;>
    simp_all [fits_init, fits_run, fits_draining, fits_entering, fits_asleep, fits_waking, starting_iff, serving_iff,
      entryWaits_iff, entryRuns_iff, sleeping_iff, exitWaits_iff, exitRuns_iff]

theorem exitRuns_of_wide {q : QuiesceState} (h : r.fits q = true) (exit : r.wide = some .exit) :
    r.exitRuns = true ∧ q = .waking := by
  cases q <;>
    simp_all [fits_init, fits_run, fits_draining, fits_entering, fits_asleep, fits_waking, starting_iff, serving_iff,
      entryWaits_iff, entryRuns_iff, sleeping_iff, exitWaits_iff, exitRuns_iff]

theorem starting_of_wide {q : QuiesceState} (h : r.fits q = true) (init : r.wide = some .init) :
    r.starting = true ∧ q = .init := by
  cases q <;>
    simp_all [fits_init, fits_run, fits_draining, fits_entering, fits_asleep, fits_waking, starting_iff, serving_iff,
      entryWaits_iff, entryRuns_iff, sleeping_iff, exitWaits_iff, exitRuns_iff]

/-- Under RESET_N too. -/
theorem settled_of_wide (h : r.settled = true) :
    (r.wide = some .entry → r.entryRuns = true) ∧ (r.wide = some .exit → r.exitRuns = true) ∧ r.wide ≠ some .init := by
  simp only [settled_iff] at h
  simp_all only [serving_iff, entryRuns_iff, sleeping_iff, exitRuns_iff]
  refine ⟨fun entry => ?_, fun exit => ?_, fun init => ?_⟩
  · simp_all
  · simp_all
  · simp_all

/-- The last entry: a rank in self-refresh sleeps. -/
theorem sleeping_of_entering (h : r.fits .entering = true) (state : r.state = .selfRefresh) : r.sleeping = true := by
  rcases fits_entering.1 h with h | h | h
  · rw [(entryWaits_iff.1 h).1] at state
    cases state
  · rw [(entryRuns_iff.1 h).1] at state
    cases state
  · exact h

/-- The last exit: an OPERATING rank with no change of state under way serves. -/
theorem serving_of_waking (h : r.fits .waking = true) (state : r.state = .operating) (calm : r.changing = false) :
    r.serving = true := by
  rcases fits_waking.1 h with h | h | h | h
  · rw [(exitWaits_iff.1 h).1] at state
    cases state
  · rw [(exitRuns_iff.1 h).1] at state
    cases state
  · exact h
  · simp [changing, (entryRuns_iff.1 h).2.2] at calm

/-- The last initialization: an OPERATING rank serves. -/
theorem serving_of_init (h : r.fits .init = true) (state : r.state = .operating) : r.serving = true := by
  rcases fits_init.1 h with h | h
  · rw [(starting_iff.1 h).1] at state
    cases state
  · exact h

theorem powerOn_starts (r : RankSched) : r.powerOn.starting = true := rfl

/-- Across the assertion of RESET_N a rank without an initialization to run is settled. -/
theorem warm_settled {q : QuiesceState} (h : r.fits q = true) (past : q ≠ .init) : r.warm.settled = true := by
  cases q with
  | init => exact absurd rfl past
  | run => simp_all [fits_run, settled_iff, serving_iff, warm, keptWide]
  | draining => simp_all [fits_draining, settled_iff, serving_iff, warm, keptWide]
  | asleep => simp_all [fits_asleep, settled_iff, serving_iff, sleeping_iff, warm, keptWide]
  | entering =>
    rcases fits_entering.1 h with h | h | h
    · simp_all [entryWaits_iff, settled_iff, serving_iff, warm, keptWide]
    · simp_all [entryRuns_iff, settled_iff, warm, keptWide]
    · simp_all [sleeping_iff, settled_iff, warm, keptWide]
  | waking =>
    rcases fits_waking.1 h with h | h | h | h
    · simp_all [exitWaits_iff, sleeping_iff, settled_iff, warm, keptWide]
    · simp_all [exitRuns_iff, settled_iff, warm, keptWide]
    · simp_all [serving_iff, settled_iff, warm, keptWide]
    · simp_all [entryRuns_iff, settled_iff, warm, keptWide]

theorem warm_init (h : r.fits .init = true) : r.warm.fits .init = true := by
  rw [fits_init] at h ⊢
  rcases h with h | h
  · refine .inl ?_
    obtain ⟨state, ⟨placed, wide⟩ | ⟨placed, wide⟩⟩ := starting_iff.1 h
    · simp [starting_iff, warm, keptWide, state, placed, wide]
    · simp [starting_iff, warm, keptWide, state, placed, wide]
  · refine .inr ?_
    obtain ⟨state, placed, wide⟩ := serving_iff.1 h
    simp [serving_iff, warm, keptWide, state, placed, wide]

theorem release_wides (r : RankSched) : r.release.wides = r.wides := rfl

/-- At the release each settled rank wakes, or is doing what it may in WAKING. -/
theorem wake_fits (h : r.settled = true) : r.wake.fits .waking = true := by
  rw [fits_waking]
  rcases settled_iff.1 h with h | h | h | h
  · have awake : r.wake = r := if_neg fun c => by rw [(serving_iff.1 h).1] at c; cases c.1
    rw [awake]
    exact .inr (.inr (.inl h))
  · have awake : r.wake = r := if_neg fun c => by rw [(entryRuns_iff.1 h).1] at c; cases c.1
    rw [awake]
    exact .inr (.inr (.inr h))
  · obtain ⟨state, -, wide⟩ := sleeping_iff.1 h
    rw [wake, if_pos ⟨state, wide⟩]
    exact .inl (placeExit_waits h)
  · have leaving : r.wake = r := if_neg fun c => by rw [(exitRuns_iff.1 h).2.2] at c; cases c.2
    rw [leaving]
    exact .inr (.inl h)

/-- A settled rank OPERATING with no change of state under way serves. -/
theorem serving_of_settled (h : r.settled = true) (state : r.state = .operating) (calm : r.changing = false) :
    r.serving = true := by
  rcases settled_iff.1 h with h | h | h | h
  · exact h
  · simp [changing, (entryRuns_iff.1 h).2.2] at calm
  · rw [(sleeping_iff.1 h).1] at state
    cases state
  · rw [(exitRuns_iff.1 h).1] at state
    cases state

theorem settled_state (h : r.settled = true) : r.state ≠ .initializing := by
  rcases settled_iff.1 h with h | h | h | h
  · simp [(serving_iff.1 h).1]
  · simp [(entryRuns_iff.1 h).1]
  · simp [(sleeping_iff.1 h).1]
  · simp [(exitRuns_iff.1 h).1]

theorem settled_of_serving (h : r.serving = true) : r.settled = true := settled_iff.2 (.inl h)

end RankSched

/-! ### RUN, DRAINING and the rank-wide operations -/

/-- Outside ENTERING and ASLEEP the agreement is the ranks' alone. -/
theorem quietSound_of_fits {s : State} {q : QuiesceState} (reset : s.resetN = false) (quiesce : s.quiesce = q)
    (qack : s.qack = false) (fits : ∀ k : RankNo, (s.ranks[k]).fits q = true) (out : q ≠ .entering ∧ q ≠ .asleep) : s.QuietSound := by
  subst quiesce
  refine (State.quietSound_live_iff reset).2 ⟨?_, fits, fun rest => absurd rest (by simp [out])⟩
  simp [qack, out.2]

theorem enterDraining_sound {s : State} (reset : s.resetN = false) (qack : s.qack = false)
    (serving : ∀ k : RankNo, (s.ranks[k]).serving = true) : s.enterDraining.QuietSound :=
  quietSound_of_fits (q := .draining) reset rfl qack serving ⟨by simp, by simp⟩

theorem enterRun_sound {s : State} (reset : s.resetN = false) (qack : s.qack = false)
    (serving : ∀ k : RankNo, (s.ranks[k]).serving = true) : s.enterRun.QuietSound := by
  rw [s.enterRun_eq]
  exact quietSound_of_fits (q := .run) reset rfl qack serving ⟨by simp, by simp⟩

theorem enterByRequest_sound {s : State} (reset : s.resetN = false) (qack : s.qack = false)
    (serving : ∀ k : RankNo, (s.ranks[k]).serving = true) : s.enterByRequest.QuietSound := by
  rcases s.enterByRequest_cases with ⟨-, same⟩ | ⟨-, same⟩ <;> rw [same]
  · exact enterDraining_sound reset qack serving
  · exact enterRun_sound reset qack serving

theorem enterWaking_sound {s : State} (reset : s.resetN = false) (sleeping : ∀ k : RankNo, (s.ranks[k]).sleeping = true) :
    s.enterWaking.QuietSound := by
  refine quietSound_of_fits (q := .waking) reset rfl rfl (fun k => ?_) ⟨by simp, by simp⟩
  have rank : s.enterWaking.ranks[k] = (s.ranks[k]).placeWide .exit := getElem_mapV ..
  rw [rank]
  exact RankSched.fits_waking.2 (.inl (RankSched.placeExit_waits (sleeping k)))

/-- The level of QREQ_N is no part of the agreement. -/
theorem quietSound_qreq {s : State} (level : Bool) (h : s.QuietSound) : State.QuietSound { s with qreq := level } := h

theorem requestQuiet_sound {s : State} (h : s.QuietSound) : s.requestQuiet.QuietSound := by
  simp only [State.requestQuiet]
  split
  next inRun =>
    obtain ⟨reset, run⟩ := inRun
    obtain ⟨qack, fits, -⟩ := (State.quietSound_live_iff reset).1 h
    have run : s.quiesce = .run := run
    rw [run] at fits qack
    exact enterDraining_sound (s := { s with qreq := true }) reset qack fits
  next => exact quietSound_qreq true h

theorem withdrawQuiet_sound {s : State} (h : s.QuietSound) : s.withdrawQuiet.QuietSound := by
  simp only [State.withdrawQuiet]
  split
  next => exact quietSound_qreq false h
  next live =>
    have reset : s.resetN = false := by simpa using live
    obtain ⟨qack, fits, -⟩ := (State.quietSound_live_iff reset).1 h
    split
    next draining =>
      have draining : s.quiesce = .draining := draining
      rw [draining] at fits qack
      exact enterRun_sound (s := { s with qreq := false }) reset qack fits
    next asleep =>
      have asleep : s.quiesce = .asleep := asleep
      rw [asleep] at fits
      exact enterWaking_sound (s := { s with qreq := false }) reset fits
    all_goals exact quietSound_qreq false h

/-- The drain condition is rest, with no credit owed. -/
theorem State.still_of_drainCondition {s : State} (h : s.drainCondition = true) : s.still = true := by
  simp only [State.drainCondition, FrontLink.drained, Bool.and_eq_true] at h
  obtain ⟨⟨⟨⟨⟨⟨tracker, queue⟩, -⟩, -⟩, step⟩, patrol⟩, ops⟩ := h
  simp only [State.still, Bool.and_eq_true]
  exact ⟨⟨⟨⟨tracker, queue⟩, step⟩, patrol⟩, ops⟩

theorem still_placeWides {s : State} (w : WideOp) (h : s.still = true) : (s.onRanks (RankSched.placeWide w)).still = true := by
  obtain ⟨tracker, queue, step, patrol, ops⟩ := s.still_iff.1 h
  refine (State.still_iff _).2 ⟨tracker, queue, step, patrol, fun k => ?_⟩
  rw [onRanks_rank]
  exact ops k

theorem completeDrain_sound {s : State} (h : s.QuietSound) (reset : s.resetN = false) : s.completeDrain.QuietSound := by
  simp only [State.completeDrain]
  split
  next ready =>
    obtain ⟨draining, drained⟩ := ready
    obtain ⟨qack, fits, -⟩ := (State.quietSound_live_iff reset).1 h
    rw [draining] at fits qack
    refine (State.quietSound_live_iff (by exact reset)).2 ⟨by simpa using qack, fun k => ?_, fun _ => ?_⟩
    · have rank : (s.onRanks (RankSched.placeWide .entry)).ranks[k] = (s.ranks[k]).placeWide .entry := onRanks_rank ..
      simp only [rank]
      exact RankSched.fits_entering.2 (.inl (RankSched.placeEntry_waits (fits k)))
    · exact still_placeWides .entry (State.still_of_drainCondition drained)
  next => exact h

/-! ### Rank-wide operations that complete -/

section
variable {s : State} {k : RankNo}

/-- Each rank fits once the one changed does. -/
theorem onRank_fits {f : RankSched → RankSched} {p : RankSched → Prop} (here : p (f s.ranks[k])) (all : ∀ n : RankNo, p s.ranks[n])
    (n : RankNo) : p (s.onRank k f).ranks[n] := by
  rw [onRank_rank]
  split
  · exact here
  · exact all n

theorem still_onRank {f : RankSched → RankSched} (ops : (f s.ranks[k]).noLineOp = (s.ranks[k]).noLineOp) (h : s.still = true) :
    (s.onRank k f).still = true := by
  obtain ⟨tracker, queue, step, patrol, all⟩ := s.still_iff.1 h
  refine (State.still_iff _).2 ⟨tracker, queue, step, patrol, onRank_fits (p := fun r => r.noLineOp = true) ?_ all⟩
  rw [ops]
  exact all k

/-- What follows the entry of a rank, in ENTERING and in WAKING. -/
theorem afterEntry_sound (reset : s.resetN = false) (qack : s.qack = false) (fits : ∀ n : RankNo, n ≠ k → (s.ranks[n]).fits s.quiesce = true)
    (sleeps : (s.ranks[k]).sleeping = true) (quiesce : (s.quiesce = .entering ∧ s.still = true) ∨ s.quiesce = .waking) :
    (s.afterEntry k).QuietSound := by
  rcases quiesce with ⟨entering, rest⟩ | waking
  · have all (n : RankNo) : (s.ranks[n]).fits .entering = true := by
      by_cases same : n = k
      · exact RankSched.fits_entering.2 (.inr (.inr (same ▸ sleeps)))
      · exact entering ▸ fits n same
    simp only [State.afterEntry, entering]
    split
    next slept =>
      have asleep (n : RankNo) := RankSched.sleeping_of_entering (all n) ((s.allRanks_iff _).1 slept n)
      split
      · exact (State.quietSound_live_iff (by exact reset)).2 ⟨rfl, asleep, fun _ => rest⟩
      · exact enterWaking_sound reset asleep
    next =>
      refine (State.quietSound_live_iff reset).2 ⟨?_, fun n => entering ▸ all n, fun _ => rest⟩
      simp [qack, entering]
  · simp only [State.afterEntry, waking]
    refine quietSound_of_fits (q := .waking) reset waking qack (fun n => ?_) ⟨by simp, by simp⟩
    rw [onRank_rank]
    split
    · exact RankSched.fits_waking.2 (.inl (RankSched.placeExit_waits sleeps))
    next other => exact waking ▸ fits n other

theorem entryDone_sound (h : s.QuietSound) : (s.entryDone k).QuietSound := by
  simp only [State.entryDone]
  split
  next entry =>
    split
    next reset =>
      have reset : s.resetN = true := reset
      obtain ⟨qack, starts | settles⟩ := (State.quietSound_reset_iff reset).1 h
      · obtain ⟨-, impossible | impossible⟩ := RankSched.entryRuns_of_wide (starts k) entry <;> cases impossible
      · refine (State.quietSound_reset_iff (by exact reset)).2 ⟨qack, .inr (onRank_fits (p := fun r => r.settled = true) ?_ settles)⟩
        have runs := (RankSched.settled_of_wide (settles k)).1 entry
        exact RankSched.settled_iff.2 (.inr (.inr (.inl (RankSched.entered_sleeps runs))))
    next live =>
      have reset : s.resetN = false := by simpa using live
      obtain ⟨qack, fits, rest⟩ := (State.quietSound_live_iff reset).1 h
      obtain ⟨runs, quiesce⟩ := RankSched.entryRuns_of_wide (fits k) entry
      have noAck : s.qack = false := by
        rw [qack]
        rcases quiesce with q | q <;> simp [q]
      refine afterEntry_sound reset noAck (fun n other => ?_) ?_ ?_
      · rw [onRank_rank, if_neg other]
        exact fits n
      · rw [onRank_rank, if_pos rfl]
        exact RankSched.entered_sleeps runs
      · refine quiesce.imp (fun entering => ⟨entering, ?_⟩) id
        exact still_onRank (f := fun r => { r with wide := none, state := .selfRefresh }) rfl (rest (.inl entering))
  next => exact h

theorem exitDone_sound (h : s.QuietSound) : (s.exitDone k).QuietSound := by
  simp only [State.exitDone]
  split
  next exit =>
    cases reset : s.resetN with
    | true =>
      rw [if_neg (by simp [reset])]
      obtain ⟨qack, starts | settles⟩ := (State.quietSound_reset_iff reset).1 h
      · cases (RankSched.exitRuns_of_wide (starts k) exit).2
      · refine (State.quietSound_reset_iff (by exact reset)).2 ⟨qack, .inr (onRank_fits (p := fun r => r.settled = true) ?_ settles)⟩
        have runs := (RankSched.settled_of_wide (settles k)).2.1 exit
        exact RankSched.settled_of_serving (RankSched.exited_serves runs)
    | false =>
      obtain ⟨qack, fits, -⟩ := (State.quietSound_live_iff reset).1 h
      obtain ⟨runs, waking⟩ := RankSched.exitRuns_of_wide (fits k) exit
      have all := onRank_fits (f := fun r => { r with wide := none, state := .operating, debt := 0, timerOn := true })
        (p := fun r => r.fits .waking = true) (RankSched.fits_waking.2 (.inr (.inr (.inl (RankSched.exited_serves runs)))))
        (waking ▸ fits)
      have noAck : s.qack = false := by rw [qack, waking]; rfl
      split
      next last =>
        obtain ⟨-, -, operating, calm⟩ := last
        exact enterByRequest_sound reset noAck fun n => RankSched.serving_of_waking (all n)
          ((State.allRanks_iff _ _).1 operating n) ((State.noneChanging_iff _).1 calm n)
      next => exact quietSound_of_fits (q := .waking) reset waking noAck all ⟨by simp, by simp⟩
  next => exact h

theorem initDone_sound (h : s.QuietSound) : (s.initDone k).QuietSound := by
  simp only [State.initDone]
  split
  next init =>
    cases reset : s.resetN with
    | true =>
      rw [if_neg (by simp [reset])]
      obtain ⟨qack, starts | settles⟩ := (State.quietSound_reset_iff reset).1 h
      · refine (State.quietSound_reset_iff (by exact reset)).2 ⟨qack, .inl (onRank_fits (p := fun r => r.fits .init = true) ?_ starts)⟩
        exact RankSched.fits_init.2 (.inr (RankSched.inited_serves (RankSched.starting_of_wide (starts k) init).1 init))
      · exact absurd init (RankSched.settled_of_wide (settles k)).2.2
    | false =>
      obtain ⟨qack, fits, -⟩ := (State.quietSound_live_iff reset).1 h
      obtain ⟨starts, first⟩ := RankSched.starting_of_wide (fits k) init
      have all := onRank_fits (f := fun r => { r with wide := none, state := .operating, timerOn := true })
        (p := fun r => r.fits .init = true) (RankSched.fits_init.2 (.inr (RankSched.inited_serves starts init))) (first ▸ fits)
      have noAck : s.qack = false := by rw [qack, first]; rfl
      split
      next last =>
        obtain ⟨-, -, operating⟩ := last
        exact enterByRequest_sound reset noAck fun n => RankSched.serving_of_init (all n) ((State.allRanks_iff _ _).1 operating n)
      next => exact quietSound_of_fits (q := .init) reset first noAck all ⟨by simp, by simp⟩
  next => exact h

end

/-! ### The resets -/

theorem powerOn_sound (s : State) (straps : BitVec 2) : (s.powerOn straps).QuietSound := by
  refine quietSound_of_fits (q := .init) rfl rfl rfl (fun k => ?_) ⟨by simp, by simp⟩
  rw [s.powerOn_rank]
  exact RankSched.fits_init.2 (.inl (RankSched.powerOn_starts _))

theorem assertReset_sound {s : State} (h : s.QuietSound) : s.assertReset.QuietSound := by
  simp only [State.assertReset]
  split
  next => exact h
  next live =>
    have reset : s.resetN = false := by simpa using live
    obtain ⟨-, fits, -⟩ := (State.quietSound_live_iff reset).1 h
    refine (State.quietSound_reset_iff (by rfl)).2 ⟨rfl, ?_⟩
    simp only [getElem_mapV]
    by_cases first : s.quiesce = .init
    · exact .inl fun k => RankSched.warm_init (first ▸ fits k)
    · exact .inr fun k => RankSched.warm_settled (fits k) first

theorem quiesceFromRanks_sound {s : State} (reset : s.resetN = false) (qack : s.qack = false)
    (ranks : (∀ k : RankNo, (s.ranks[k]).fits .init = true) ∨ ∀ k : RankNo, (s.ranks[k]).settled = true) :
    s.quiesceFromRanks.QuietSound := by
  have settled_unless (none : ¬ ∃ k : RankNo, (s.ranks[k]).state = .initializing) (k : RankNo) : (s.ranks[k]).settled = true := by
    rcases ranks with starts | settles
    · rcases RankSched.fits_init.1 (starts k) with h | h
      · exact absurd ⟨k, (RankSched.starting_iff.1 h).1⟩ none
      · exact RankSched.settled_of_serving h
    · exact settles k
  simp only [State.quiesceFromRanks]
  split
  next some_starts =>
    obtain ⟨k, starting⟩ := (s.anyRank_iff _).1 some_starts
    refine quietSound_of_fits (q := .init) reset rfl qack ?_ ⟨by simp, by simp⟩
    rcases ranks with starts | settles
    · exact starts
    · exact absurd starting (RankSched.settled_state (settles k))
  next none_starts =>
    rw [s.anyRank_iff] at none_starts
    have settled := settled_unless none_starts
    split
    next =>
      refine quietSound_of_fits (q := .waking) reset rfl qack (fun k => ?_) ⟨by simp, by simp⟩
      have rank : (s.onRanks RankSched.wake).ranks[k] = (s.ranks[k]).wake := onRanks_rank ..
      simp only [rank]
      exact RankSched.wake_fits (settled k)
    next none_changes =>
      rw [Bool.or_eq_true, not_or, s.anyRank_iff, Bool.not_eq_true', Bool.not_eq_false, s.noneChanging_iff] at none_changes
      obtain ⟨none_sleeps, calm⟩ := none_changes
      refine enterByRequest_sound reset qack fun k => RankSched.serving_of_settled (settled k) ?_ (calm k)
      cases state : (s.ranks[k]).state with
      | initializing => exact absurd ⟨k, state⟩ none_starts
      | operating => rfl
      | selfRefresh => exact absurd ⟨k, state⟩ none_sleeps

theorem releaseReset_sound {s : State} (h : s.QuietSound) : s.releaseReset.QuietSound := by
  simp only [State.releaseReset]
  split
  next reset =>
    obtain ⟨qack, ranks⟩ := (State.quietSound_reset_iff reset).1 h
    refine (offer_calm _ _).eases.quietSound (quiesceFromRanks_sound rfl qack ?_)
    have same (k : RankNo) := RankSched.eases_of_wides (s.ranks[k]).release_wides
    simp only [State.onRanks, getElem_mapV]
    exact ranks.imp (fun fits k => (same k).1 _ (fits k)) fun fits k => (same k).2 (fits k)
  next => exact h

/-! ### The events outside quiesce -/

section
variable {s : State}

/-- Outside RUN each request is refused (R39). -/
theorem State.check_isSome (out : s.quiesce ≠ .run) (tag : Tag) (la : LineAddr) (balance : Nat) (badMask : Bool) :
    ∃ why, s.check tag la balance badMask = some why := by
  simp only [State.check]
  split <;> exact ⟨_, rfl⟩

theorem refuseRequest_still (tag : Tag) (la : LineAddr) (why : FrontReason) : (s.refuseRequest tag la why).still = s.still := by
  simp only [State.refuseRequest]
  split <;> rfl

theorem takeReadRequest_eases (tag : Tag) (la : LineAddr) : Eases s (s.takeReadRequest tag la) := by
  refine .of_wides (wides_takeReadRequest s tag la) fun _ out rest => ?_
  obtain ⟨why, refused⟩ := State.check_isSome out tag la s.front.readBalance false
  simpa only [State.takeReadRequest, refused, refuseRequest_still] using rest

theorem takeWriteRequest_eases (tag : Tag) (la : LineAddr) (data : LineData) : Eases s (s.takeWriteRequest tag la data) := by
  refine .of_wides (wides_takeWriteRequest s tag la data) fun _ out rest => ?_
  obtain ⟨why, refused⟩ := State.check_isSome out tag la s.front.writeBalance false
  simpa only [State.takeWriteRequest, refused, refuseRequest_still] using rest

theorem takeMaskedRequest_eases (tag : Tag) (la : LineAddr) (enables : BitVec 64) (data : LineData) :
    Eases s (s.takeMaskedRequest tag la enables data) := by
  refine .of_wides (wides_takeMaskedRequest s tag la enables data) fun _ out rest => ?_
  obtain ⟨why, refused⟩ := State.check_isSome out tag la s.front.writeBalance (enables == 0)
  simpa only [State.takeMaskedRequest, refused, refuseRequest_still] using rest

theorem sendCredit_eases : Eases s s.sendCredit := by
  refine .of_wides (wides_sendCredit s) fun _ _ rest => ?_
  simp only [State.sendCredit]
  split <;> exact rest

theorem issueWaiting_eases (tag : Tag) : Eases s (s.issueWaiting tag) := by
  refine .of_wides (wides_issueWaiting s tag) fun _ _ rest => ?_
  have none_waits : s.issueWaiting tag = s := by
    simp only [State.issueWaiting, (s.still_iff.1 rest).1, List.find?_nil]
  rwa [none_waits]

theorem issueMergeRead_eases (tag : Tag) : Eases s (s.issueMergeRead tag) := by
  refine .of_wides (wides_issueMergeRead s tag) fun _ _ rest => ?_
  have none_merges : s.issueMergeRead tag = s := by
    simp only [State.issueMergeRead, (s.still_iff.1 rest).2.1, List.find?_nil]
  rwa [none_merges]

theorem issueEntry_eases (la : LineAddr) : Eases s (s.issueEntry la) := by
  refine .of_wides (wides_issueEntry s la) fun _ _ rest => ?_
  have none_held : s.oldestEntry la = none := by simp [State.oldestEntry, (s.still_iff.1 rest).2.1]
  simpa only [State.issueEntry, none_held] using rest

theorem refreshExpiry_eases (k : RankNo) : Eases s (s.refreshExpiry k) := by
  simp only [State.refreshExpiry]
  split
  · split
    · exact onRank_eases s k _ (RankSched.eases_of_wides rfl) rfl
    · exact ((onCounters_calm s _).trans (offer_calm _ _)).eases
  · exact .refl s

theorem refreshDone_eases (k : RankNo) : Eases s (s.refreshDone k) := by
  simp only [State.refreshDone]
  split
  next refresh => exact onRank_eases s k _ (RankSched.refreshed_eases refresh) rfl
  next => exact .refl s

theorem patrolExpiry_eases : Eases s s.patrolExpiry := by
  refine .of_wides (wides_patrolExpiry s) fun _ out rest => ?_
  simp only [State.patrolExpiry]
  split
  · exact rest
  · rw [if_pos (.inl out)]
    exact rest

theorem startJob_eases : Eases s s.startJob := by
  refine .of_wides (wides_startJob s) fun _ out rest => ?_
  rwa [State.startJob, if_neg fun run => out run.2]

theorem beginStep_eases : Eases s s.beginStep := by
  refine .of_wides (wides_beginStep s) fun _ out rest => ?_
  rwa [State.beginStep, if_neg fun run => out run.2]

/-- A bank that carries an operation. -/
theorem State.busy_of_inBank {k : RankNo} {b : BankNo} {o : LineOp} (there : s.inBank k b = some o) : s.still ≠ true := by
  intro rest
  obtain ⟨-, -, -, -, none_held⟩ := s.still_iff.1 rest
  have banks := none_held k
  simp only [RankSched.noLineOp, Bool.and_eq_true, List.all_eq_true, Vector.mem_toList_iff] at banks
  have idle := banks.2 _ (Vector.getElem_mem b.isLt)
  rw [show ((s.ranks[k]).banks[b.val] : Option LineOp) = some o from there] at idle
  cases idle

theorem live_eases {t : State} (h : Eases s t) : Eases s (if s.resetN then s else t) := by
  split
  · exact .refl s
  · exact h

end

/-! ### Completions of line operations -/

/-- A completion on a bank that carries an operation leaves the quiesce controller and the rank-wide operations. -/
theorem completed_eases {s t : State} {k : RankNo} {b : BankNo} {o : LineOp} (there : s.inBank k b = some o)
    (same : t.wides = s.wides) : Eases s t := .of_busy same (State.busy_of_inBank there)

/-- The next state of an outcome keeps the agreement. -/
def QuietOn (s : State) (o : Host.Outcome State Fault Refusal) : Prop := ∀ t, o = .next t → s.QuietSound → t.QuietSound

theorem QuietOn.next {s t : State} (h : s.QuietSound → t.QuietSound) : QuietOn s (.next t) := by
  rintro _ ⟨⟩
  exact h

theorem QuietOn.eases {s t : State} (h : Eases s t) : QuietOn s (.next t) := .next h.quietSound

theorem QuietOn.calm {s t : State} (h : Calm s t) : QuietOn s (.next (if s.resetN then s else t)) := .eases (live_eases h.eases)

section
variable (s : State) (k : RankNo) (b : BankNo) (d : Option StoredLine)

theorem hostReadComplete_quiet : QuietOn s (execHostReadComplete k b d s) := by
  simp only [execHostReadComplete]
  split
  next there =>
    refine .eases (completed_eases there ?_)
    split <;> simp
  · exact .eases (.refl s)

theorem mergeReadComplete_quiet : QuietOn s (execMergeReadComplete k b d s) := by
  simp only [execMergeReadComplete]
  split
  next there =>
    refine .eases (completed_eases there ?_)
    split <;> simp
  · exact .eases (.refl s)

theorem failoverReadComplete_quiet : QuietOn s (execFailoverReadComplete k b d s) := by
  simp only [execFailoverReadComplete]
  split
  next there =>
    refine .eases (completed_eases there ?_)
    split <;> simp
  · exact .eases (.refl s)

theorem moveReadComplete_quiet : QuietOn s (execMoveReadComplete k b d s) := by
  simp only [execMoveReadComplete]
  split
  next there =>
    refine .eases (completed_eases there ?_)
    split <;> simp
  · exact .eases (.refl s)

theorem patrolReadComplete_quiet : QuietOn s (execPatrolReadComplete k b d s) := by
  simp only [execPatrolReadComplete]
  split
  next there =>
    refine .eases (completed_eases there ?_)
    split <;> simp
  · exact .eases (.refl s)

theorem entryWriteComplete_quiet : QuietOn s (execEntryWriteComplete k b s) := by
  simp only [execEntryWriteComplete]
  split
  next there =>
    refine .eases (completed_eases there ?_)
    split <;> simp
  · exact .eases (.refl s)

theorem targetWriteComplete_quiet : QuietOn s (execTargetWriteComplete k b s) := by
  simp only [execTargetWriteComplete]
  split
  next there =>
    refine .eases (completed_eases there ?_)
    split <;> simp
  · exact .eases (.refl s)

theorem repairWriteComplete_quiet : QuietOn s (execRepairWriteComplete k b s) := by
  simp only [execRepairWriteComplete]
  split
  next there =>
    refine .eases (completed_eases there ?_)
    split
    · simp
    · split <;> simp
  · exact .eases (.refl s)

theorem scrubWriteComplete_quiet : QuietOn s (execScrubWriteComplete k b s) := by
  simp only [execScrubWriteComplete]
  split
  next there =>
    refine .eases (completed_eases there ?_)
    split <;> simp
  · exact .eases (.refl s)

/-! ### The commands that read out -/

theorem getStatus_calm (page : Byte) : Calm s (s.getStatus page) :=
  .ite (fun _ => respond_calm ..) fun _ => .ite (fun _ => respond_calm ..) fun _ => .ite (fun _ => respond_calm ..)
    fun _ => respond_calm ..

theorem getCounters_calm (group : Byte) : Calm s (s.getCounters group) := by
  simp only [State.getCounters]
  split <;> exact respond_calm ..

theorem readRegion_calm (index selector : Byte) : Calm s (s.readRegion index selector) := by
  simp only [State.readRegion]
  split <;> exact respond_calm ..

theorem readSlot_calm (slot : Byte) : Calm s (s.readSlot slot) := by
  simp only [State.readSlot]
  split <;> exact respond_calm ..

theorem readCursor_calm (rank bank : Byte) : Calm s (s.readCursor rank bank) := by
  simp only [State.readCursor]
  split <;> exact respond_calm ..

theorem readMirror_calm (index : Byte) : Calm s (s.readMirror index) := by
  simp only [State.readMirror]
  split <;> exact respond_calm ..

theorem readTracker_calm (position : Byte) : Calm s (s.readTracker position) :=
  .ite (fun _ => respond_calm ..) fun _ => respond_calm ..

theorem peekEvent_calm : Calm s s.peekEvent := by
  simp only [State.peekEvent]
  split <;> exact respond_calm ..

theorem retireRowNoCopy_quiet (rank bank : Byte) (row : BitVec 16) : QuietOn s (execRetireRowNoCopy rank bank row s) := by
  refine .calm ?_
  split
  · exact retireNoCopy_calm ..
  · exact respond_calm ..

theorem maskedWrite_quiet (tag : Tag) (la : LineAddr) (enables : BitVec 64) (data : LineData) :
    QuietOn s (execMaskedWrite tag la enables data s) := by
  refine .eases (live_eases ?_)
  split
  · exact takeWriteRequest_eases tag la data
  · exact takeMaskedRequest_eases tag la enables data

theorem drainComplete_quiet : QuietOn s (execDrainComplete s) := by
  refine .next fun h => ?_
  split
  · exact h
  next live => exact completeDrain_sound h (by simpa using live)

end

/-! ### Every command and every step -/

theorem exec_quiet (c : Instr) (s : State) : QuietOn s (exec c s) :=
  match c with
  | .read tag la => .eases (live_eases (takeReadRequest_eases tag la))
  | .write tag la data => .eases (live_eases (takeWriteRequest_eases tag la data))
  | .maskedWrite tag la enables data => maskedWrite_quiet s tag la enables data
  | .credit => .eases (live_eases sendCredit_eases)
  | .issueRead tag => .eases (live_eases (issueWaiting_eases tag))
  | .mergeReadIssue tag => .eases (live_eases (issueMergeRead_eases tag))
  | .writeEntryIssue la => .eases (live_eases (issueEntry_eases la))
  | .hostReadComplete k b d => hostReadComplete_quiet s k b d
  | .failoverReadComplete k b d => failoverReadComplete_quiet s k b d
  | .mergeReadComplete k b d => mergeReadComplete_quiet s k b d
  | .entryWriteComplete k b => entryWriteComplete_quiet s k b
  | .schedulerGrant k => .eases (grantOn_eases _ s k none)
  | .repairWriteComplete k b => repairWriteComplete_quiet s k b
  | .scrubWriteComplete k b => scrubWriteComplete_quiet s k b
  | .refreshComplete k => .eases (refreshDone_eases k)
  | .refreshTimerExpiry k => .eases (live_eases (refreshExpiry_eases k))
  | .patrolTimerExpiry => .eases (live_eases patrolExpiry_eases)
  | .patrolReadComplete k b d => patrolReadComplete_quiet s k b d
  | .jobStart => .eases (live_eases startJob_eases)
  | .lineStepBegin => .eases (live_eases beginStep_eases)
  | .moveReadComplete k b d => moveReadComplete_quiet s k b d
  | .targetWriteComplete k b => targetWriteComplete_quiet s k b
  | .qreqAssert => .next requestQuiet_sound
  | .qreqDeassert => .next withdrawQuiet_sound
  | .drainComplete => drainComplete_quiet s
  | .selfRefreshEntryComplete _ => .next entryDone_sound
  | .selfRefreshExitComplete _ => .next exitDone_sound
  | .rankInitComplete _ => .next initDone_sound
  | .powerOnReset straps => .next fun _ => powerOn_sound s straps
  | .warmResetAssert => .next assertReset_sound
  | .warmResetRelease => .next releaseReset_sound
  | .getStatus page => .calm (getStatus_calm s page)
  | .getCounters group => .calm (getCounters_calm s group)
  | .clearCounters => .calm (.of_eq rfl rfl)
  | .stageRegion index valid rank first last policy patrol threshold =>
    .calm (stageRegion_calm s index valid rank first last policy patrol threshold)
  | .readRegion index selector => .calm (readRegion_calm s index selector)
  | .commitRegions => .calm (commitRegions_calm s)
  | .readSlot slot => .calm (readSlot_calm s slot)
  | .retireRow rank bank row flag => .calm (retireRow_calm s rank bank row flag)
  | .retireRowNoCopy rank bank row => retireRowNoCopy_quiet s rank bank row
  | .releaseSlot slot => .calm (releaseSlot_calm s slot)
  | .readCursor rank bank => .calm (readCursor_calm s rank bank)
  | .readMirror index => .calm (readMirror_calm s index)
  | .failSide index side => .calm (failSide_calm s index side)
  | .resyncRegion index => .calm (resyncRegion_calm s index)
  | .setPatrol _ => .calm (.of_eq rfl rfl)
  | .readTracker position => .calm (readTracker_calm s position)
  | .popEvent => .calm (popEvent_calm s)
  | .peekEvent => .calm (peekEvent_calm s)
  | .setAlertMask mask => .calm (setAlertMask_calm s mask)
  | .openFront => .calm (openFront_calm s)
  | .closeFront => .calm (closeFront_calm s)
  | .commandFrameInvalid frame => .calm (frameInvalid_calm s frame)

/-- Settles O47: QACK_N is asserted in ASLEEP alone, where every rank sleeps and no work is held. -/
theorem quietStaysSound : Obligations.QuietStaysSound := by
  unfold Obligations.QuietStaysSound
  refine ⟨fun s t sound stepped => ?_, fun s sound asserted => ?_⟩
  · simp only [step] at stepped
    split at stepped
    · obtain rfl := Host.Outcome.next.inj stepped
      exact sound
    next c rest _ => exact exec_quiet c { s with pending := rest } t stepped sound
  · cases reset : s.resetN with
    | true =>
      rw [((State.quietSound_reset_iff reset).1 sound).1] at asserted
      cases asserted
    | false =>
      obtain ⟨qack, fits, rests⟩ := (State.quietSound_live_iff reset).1 sound
      have asleep : s.quiesce = .asleep := by simpa [asserted] using qack
      obtain ⟨tracker, queue, step, patrol, -⟩ := s.still_iff.1 (rests (.inr asleep))
      refine ⟨tracker, queue, step, patrol, fun k => ?_⟩
      rw [asleep] at fits
      exact (RankSched.sleeping_iff.1 (fits k)).1

end Sys2Proof.Machine
end

section
/-! PROOFS. One step (log entry 2), what the resets leave in every block (R12, R55, R75, R98, R137, R152), and what happens
while RESET_N is asserted (R39, R152, R162). -/

namespace Sys2Proof.Machine

/-- Settles O1: a step is the dispatch on the command at the front. -/
theorem stepTakesFront : Obligations.StepTakesFront := by
  unfold Obligations.StepTakesFront
  refine ⟨fun c rest s => rfl, fun s idle => ?_⟩
  simp only [step, idle]

/-! ### Power-on reset -/

theorem strapAddress_eq (straps : BitVec 2) : strapAddress straps = 0x58 + straps.zeroExtend 7 := by
  revert straps
  decide

/-- Settles O7: every block at its power-on value, field by field, and the banks' operations marked. -/
theorem powerOnResetsTheBlocks : Obligations.PowerOnResetsTheBlocks := by
  unfold Obligations.PowerOnResetsTheBlocks
  intro straps s
  have tables (i : RegionIx) : (s.powerOn straps).active[i] = .reset ∧ (s.powerOn straps).staged[i] = .reset
      ∧ (s.powerOn straps).mirrors[i] = none := by
    simp [State.powerOn, State.reset]
  refine ⟨s.powerOn straps, rfl, rfl, fun i => ?_, fun i => ?_, rfl, rfl, rfl, fun k => ?_, rfl, rfl, rfl, rfl, rfl, ?_, rfl, rfl,
    rfl⟩
  · obtain ⟨active, staged, mirror⟩ := tables i
    rw [active, staged, mirror]
    exact ⟨rfl, rfl, rfl⟩
  · simp [State.powerOn, State.reset]
  · rw [s.powerOn_rank]
    exact ⟨rfl, rfl, rfl, rfl, rfl, rfl, rfl, (s.ranks[k]).powerOn_bank⟩
  · rw [← strapAddress_eq]
    rfl

/-- Settles O8. -/
theorem resetMeetsTheInvariants : Obligations.ResetMeetsTheInvariants := by
  unfold Obligations.ResetMeetsTheInvariants
  have ranks : State.reset.RanksSound := by
    have none_held (k : RankNo) : (State.reset.ranks[k] : RankSched) = .reset := by simp [State.reset]
    refine ⟨fun k => ?_, by decide⟩
    rw [none_held]
    exact ⟨Nat.zero_le _, Nat.zero_le _, Nat.zero_le _, by simp [RankSched.reset], fun b => by simp [RankSched.reset]⟩
  have quiet : State.reset.QuietSound := by
    refine quietSound_of_fits (q := .init) rfl rfl rfl (fun k => ?_) ⟨by simp, by simp⟩
    have none_held : (State.reset.ranks[k] : RankSched) = .reset := by simp [State.reset]
    rw [none_held]
    rfl
  exact ⟨Store.wf_reset, reset_log_sound, FrontLink.Sound.reset, ranks, trackerSound.nil, reset_regionsSound,
    reset_homesApart, reset_sparesSound, reset_jobsSound, quiet⟩

/-! ### Completions, said once for each kind of operation -/

section
variable {s : State} {k : RankNo} {b : BankNo} {d : Option StoredLine} {o : LineOp} (there : s.inBank k b = some o)
include there

theorem exec_hostReadComplete {tag : Tag} {cls : RouteClass} (kind : o.kind = .hostRead tag cls) :
    exec (.hostReadComplete k b d) s = .next
      (if o.abandoned then ((s.freeBank k b).sense o.loc d).1
        else ((s.freeBank k b).sense o.loc d).1.requestReadDone false tag cls o.la o.loc ((s.freeBank k b).sense o.loc d).2) := by
  obtain ⟨_, _, _, _, _⟩ := o
  subst kind
  change execHostReadComplete _ _ _ _ = _
  simp only [execHostReadComplete, there]

theorem exec_mergeReadComplete {tag : Tag} {cls : RouteClass} (kind : o.kind = .mergeRead tag cls) :
    exec (.mergeReadComplete k b d) s = .next
      (if o.abandoned then ((s.freeBank k b).sense o.loc d).1
        else ((s.freeBank k b).sense o.loc d).1.requestReadDone true tag cls o.la o.loc ((s.freeBank k b).sense o.loc d).2) := by
  obtain ⟨_, _, _, _, _⟩ := o
  subst kind
  change execMergeReadComplete _ _ _ _ = _
  simp only [execMergeReadComplete, there]

theorem exec_failoverReadComplete {tag : Tag} {merge : Bool} {i : RegionIx} {born : Nat}
    (kind : o.kind = .failoverRead tag merge i born) :
    exec (.failoverReadComplete k b d) s = .next
      (if o.abandoned then ((s.freeBank k b).sense o.loc d).1
        else ((s.freeBank k b).sense o.loc d).1.failoverDone tag merge i born o.la o.loc o.superseded
          ((s.freeBank k b).sense o.loc d).2) := by
  obtain ⟨_, _, _, _, _⟩ := o
  subst kind
  change execFailoverReadComplete _ _ _ _ = _
  simp only [execFailoverReadComplete, there]

theorem exec_moveReadComplete (kind : o.kind = .moveRead) :
    exec (.moveReadComplete k b d) s = .next
      (if o.abandoned then ((s.freeBank k b).sense o.loc d).1
        else ((s.freeBank k b).sense o.loc d).1.moveReadDone ((s.freeBank k b).sense o.loc d).2) := by
  obtain ⟨_, _, _, _, _⟩ := o
  subst kind
  change execMoveReadComplete _ _ _ _ = _
  simp only [execMoveReadComplete, there]

theorem exec_patrolReadComplete {turn : PatrolTurn} (kind : o.kind = .patrolRead turn) :
    exec (.patrolReadComplete k b d) s = .next
      (if o.abandoned then ((s.freeBank k b).sense o.loc d).1
        else ((s.freeBank k b).sense o.loc d).1.patrolReadDone turn o.la o.loc o.superseded
          ((s.freeBank k b).sense o.loc d).2) := by
  obtain ⟨_, _, _, _, _⟩ := o
  subst kind
  change execPatrolReadComplete _ _ _ _ = _
  simp only [execPatrolReadComplete, there]

theorem exec_entryWriteComplete {f : LineForm} {cls : WriteClass} (kind : o.kind = .entryWrite f cls) :
    exec (.entryWriteComplete k b) s = .next
      (if o.abandoned then (s.freeBank k b).storeForm o.loc f else ((s.freeBank k b).storeForm o.loc f).entryWriteDone o.la) := by
  obtain ⟨_, _, _, _, _⟩ := o
  subst kind
  change execEntryWriteComplete _ _ _ = _
  simp only [execEntryWriteComplete, there]

theorem exec_targetWriteComplete {f : LineForm} (kind : o.kind = .targetWrite f) :
    exec (.targetWriteComplete k b) s = .next
      (if o.abandoned then (s.freeBank k b).storeForm o.loc f else ((s.freeBank k b).storeForm o.loc f).endStep) := by
  obtain ⟨_, _, _, _, _⟩ := o
  subst kind
  change execTargetWriteComplete _ _ _ = _
  simp only [execTargetWriteComplete, there]

/-- What a repair write does once stored (R70, R125). -/
def State.repairWritten (t : State) (i : RegionIx) (side : Side) (patrol : Bool) (la : LineAddr) : State :=
  let t := (t.onCounters fun c => { c with repairsWritten := satInc c.repairsWritten }).offer (.mirrorRepaired i side (homeLoc la))
  if patrol then t.patrolDone else t

theorem exec_repairWriteComplete {data : LineData} {i : RegionIx} {side : Side} {patrol : Bool} {cls : WriteClass}
    (kind : o.kind = .repairWrite data i side patrol cls) :
    exec (.repairWriteComplete k b) s = .next
      (if o.abandoned then (s.freeBank k b).storeForm o.loc (.data data)
        else ((s.freeBank k b).storeForm o.loc (.data data)).repairWritten i side patrol o.la) := by
  obtain ⟨_, _, _, _, _⟩ := o
  subst kind
  change execRepairWriteComplete _ _ _ = _
  simp only [execRepairWriteComplete, there]
  rfl

/-- What a scrub write does once stored (R136, R137). -/
def State.scrubWritten (t : State) : State :=
  (t.onCounters fun c => { c with scrubWrites := satInc c.scrubWrites }).patrolDone

theorem exec_scrubWriteComplete {data : LineData} {cls : WriteClass} (kind : o.kind = .scrubWrite data cls) :
    exec (.scrubWriteComplete k b) s = .next
      (if o.abandoned then (s.freeBank k b).storeForm o.loc (.data data)
        else ((s.freeBank k b).storeForm o.loc (.data data)).scrubWritten) := by
  obtain ⟨_, _, _, _, _⟩ := o
  subst kind
  change execScrubWriteComplete _ _ _ = _
  simp only [execScrubWriteComplete, there]
  rfl

end

/-- Settles O28: along the nine kinds, the completion of an abandoned operation. -/
theorem resultsBeforeAResetAreDiscarded : Obligations.ResultsBeforeAResetAreDiscarded := by
  unfold Obligations.ResultsBeforeAResetAreDiscarded
  intro k b d o s there gone
  cases kind : o.kind with
  | hostRead => exact (exec_hostReadComplete there kind).trans (by rw [if_pos gone])
  | mergeRead => exact (exec_mergeReadComplete there kind).trans (by rw [if_pos gone])
  | failoverRead => exact (exec_failoverReadComplete there kind).trans (by rw [if_pos gone])
  | moveRead => exact (exec_moveReadComplete there kind).trans (by rw [if_pos gone])
  | patrolRead => exact (exec_patrolReadComplete there kind).trans (by rw [if_pos gone])
  | entryWrite => exact (exec_entryWriteComplete there kind).trans (by rw [if_pos gone])
  | targetWrite => exact (exec_targetWriteComplete there kind).trans (by rw [if_pos gone])
  | repairWrite => exact (exec_repairWriteComplete there kind).trans (by rw [if_pos gone])
  | scrubWrite => exact (exec_scrubWriteComplete there kind).trans (by rw [if_pos gone])

/-! ### Refresh (R147) -/

theorem countUp_eq_satInc (n : BitVec 32) : countUp n = satInc n := by
  simp only [countUp, satInc, show BitVec.allOnes 32 = 0xFFFFFFFF from rfl]

/-- Settles O31. -/
theorem refreshIsOwedAndPaid : Obligations.RefreshIsOwedAndPaid := by
  unfold Obligations.RefreshIsOwedAndPaid
  intro k s
  refine ⟨fun live runs operating owes => ?_, fun live runs operating owes => ?_, fun refresh => ?_⟩
  · refine (s.live_next _ live).trans ?_
    simp only [if_pos (And.intro runs operating), Config.maxDebt, if_pos owes]
    rfl
  · refine (s.live_next _ live).trans ?_
    simp only [if_pos (And.intro runs operating), Config.maxDebt, owes, lt_irrefl, if_false,
      countUp_eq_satInc]
    rfl
  · exact congrArg Host.Outcome.next (if_pos refresh)

/-! ### Under RESET_N -/

/-- Settles O46: an event outside the rank ports has no effect under RESET_N, and the others have no more than named. -/
theorem nothingElseHappensUnderReset : Obligations.NothingElseHappensUnderReset := by
  unfold Obligations.NothingElseHappensUnderReset
  refine ⟨fun c s reset => ?_, fun s live => ?_⟩
  · cases c with
    | hostReadComplete | failoverReadComplete | mergeReadComplete | entryWriteComplete | schedulerGrant | repairWriteComplete
    | scrubWriteComplete | refreshComplete | patrolReadComplete | moveReadComplete | targetWriteComplete | powerOnReset
    | warmResetRelease => trivial
    | qreqAssert => exact congrArg Host.Outcome.next (if_neg fun h => by simp [reset] at h)
    | qreqDeassert => exact congrArg Host.Outcome.next (if_pos reset)
    | selfRefreshEntryComplete k =>
      intro entry
      exact congrArg Host.Outcome.next ((if_pos entry).trans (if_pos reset))
    | selfRefreshExitComplete k =>
      intro exit
      exact congrArg Host.Outcome.next ((if_pos exit).trans (if_neg fun h => by simp [State.onRank, reset] at h))
    | rankInitComplete k =>
      intro init
      exact congrArg Host.Outcome.next ((if_pos init).trans (if_neg fun h => by simp [State.onRank, reset] at h))
    | warmResetAssert => exact congrArg Host.Outcome.next (if_pos reset)
    | _ => exact congrArg Host.Outcome.next (if_pos reset)
  · exact congrArg Host.Outcome.next (if_neg (by simp [live]))

/-! ### Side counts (R117, R118) -/

/-- A count raised, up to 4. -/
theorem MirrorRecord.raise_eq (m : MirrorRecord) (x : Side) :
    m.raise x = { m with
      primaryCount := if x = .primary then if m.primaryCount < 4 then m.primaryCount + 1 else 4 else m.primaryCount
      shadowCount := if x = .shadow then if m.shadowCount < 4 then m.shadowCount + 1 else 4 else m.shadowCount } := by
  have up (n : Nat) : min 4 (n + 1) = if n < 4 then n + 1 else 4 := by
    split <;> omega
  cases x <;> simp [MirrorRecord.raise, Config.sideLimit, up]

/-- A count reaches the limit of 4 from 3 alone. -/
theorem MirrorRecord.reaches_limit_iff (m : MirrorRecord) (x : Side) :
    (m.count x < Config.sideLimit ∧ (m.raise x).count x = Config.sideLimit) ↔ m.count x = 3 := by
  cases x <;> simp only [MirrorRecord.count, MirrorRecord.raise, Config.sideLimit] <;> omega

/-- Settles O57: along the branches of a side-count report. -/
theorem sideCountsFailASide : Obligations.SideCountsFailASide := by
  unfold Obligations.SideCountsFailASide
  intro i x born s
  refine ⟨fun missing => ?_, fun m here => ?_⟩
  · simp only [State.sideReport, missing]
  have report : s.sideReport i x born =
      if m.born ≠ born then s
      else if m.state = .duplex ∧ m.count x < Config.sideLimit ∧ (m.raise x).count x = Config.sideLimit then
        (s.setMirror i (some { m.raise x with state := simplexOf x.other })).offer (.mirrorSideFailed i x .threshold)
      else s.setMirror i (some (m.raise x)) := by
    simp only [State.sideReport, Option.mem_def.1 here]
  have count : (if x = .primary then m.primaryCount else m.shadowCount) = m.count x := by
    cases x <;> rfl
  simp only [MirrorRecord.reaches_limit_iff] at report
  simp only [count, ← MirrorRecord.raise_eq]
  refine ⟨fun other => ?_, fun same short => ?_, fun same duplex third => ?_⟩
  · rw [report, if_pos other]
  · rw [report, if_neg (not_not.2 same), if_neg (by tauto)]
    rfl
  · rw [report, if_neg (not_not.2 same), if_pos ⟨duplex, third⟩, m.raise_eq]
    cases x <;> rfl

end Sys2Proof.Machine
end

section
/-! PROOFS. The edges of QREQ_N and the drain, rank-wide operations that complete, and the two edges of RESET_N, spelled out
field by field (R38, R98, R109, R110, R148 to R152, R162). -/

namespace Sys2Proof.Machine

/-! ### The engine paused and resumed, and credits started -/

theorem Engine.resume_mode (e : Engine) :
    e.resume = { e with mode := if e.mode = .paused then .running else e.mode } := by
  simp only [Engine.resume]
  split <;> rfl

theorem Engine.stepInFlight_eq_false_iff (e : Engine) : e.stepInFlight = false ↔ ∀ j ∈ e.job, j.step = none := by
  cases job : e.job <;> simp [Engine.stepInFlight, job]

theorem Engine.pause_mode (e : Engine) :
    e.pause = { e with mode := if e.mode = .running ∧ (∀ j ∈ e.job, j.step = none) then .paused else e.mode } := by
  simp only [Engine.pause, e.stepInFlight_eq_false_iff]
  split <;> rfl

section
variable {s : State}

theorem enterRun_started (started : s.front.creditsStarted = true) :
    s.enterRun = { s with
      quiesce := .run
      engine := { s.engine with mode := if s.engine.mode = .paused then .running else s.engine.mode } } := by
  rw [← Engine.resume_mode]
  exact State.startCredits_started _ started

theorem enterRun_opened (unstarted : s.front.creditsStarted = false) (opened : s.front.admission = .opened) :
    s.enterRun = { s with
      quiesce := .run
      engine := { s.engine with mode := if s.engine.mode = .paused then .running else s.engine.mode }
      sent := s.sent ++ [.credit 32 24 true]
      front := { s.front with creditsStarted := true, readBalance := 32, writeBalance := 24 } } := by
  rw [← Engine.resume_mode]
  exact State.startCredits_opened _ unstarted opened

theorem enterRun_closed (unstarted : s.front.creditsStarted = false) (closed : s.front.admission = .closed) :
    s.enterRun = { s with
      quiesce := .run
      engine := { s.engine with mode := if s.engine.mode = .paused then .running else s.engine.mode }
      front := { s.front with creditsStarted := true } } := by
  rw [← Engine.resume_mode]
  exact State.startCredits_closed _ unstarted closed

/-- Nothing held in any part is the drain condition (R149). -/
theorem State.drainCondition_of (tracker : s.front.tracker = []) (queue : s.front.queue = []) (reads : s.front.readOwed = 0)
    (writes : s.front.writeOwed = 0) (step : ∀ j ∈ s.engine.job, j.step = none) (patrol : s.patrol.step = none)
    (ops : ∀ k : RankNo, (s.ranks[k]).placed = [] ∧ ∀ b : BankNo, (s.ranks[k]).banks[b] = none) :
    s.drainCondition = true := by
  have none_held (r : RankSched) (hr : r ∈ s.ranks) : r.noLineOp = true := by
    obtain ⟨k, hk, rfl⟩ := Vector.mem_iff_getElem.1 hr
    obtain ⟨placed, banks⟩ := ops ⟨k, hk⟩
    simp only [RankSched.noLineOp, Bool.and_eq_true, List.isEmpty_iff, List.all_eq_true, Vector.mem_toList_iff,
      Option.isNone_iff_eq_none]
    refine ⟨placed, fun o ho => ?_⟩
    obtain ⟨b, hb, rfl⟩ := Vector.mem_iff_getElem.1 ho
    exact banks ⟨b, hb⟩
  simp only [State.drainCondition, FrontLink.drained, tracker, queue, reads, writes, (s.engine.stepInFlight_eq_false_iff).2 step,
    patrol, Bool.and_eq_true, List.all_eq_true, Vector.mem_toList_iff]
  exact ⟨⟨⟨⟨⟨⟨rfl, rfl⟩, rfl⟩, rfl⟩, rfl⟩, rfl⟩, none_held⟩

end

/-- Settles O43: along the quiesce states, what each edge of QREQ_N and the drain do. -/
theorem quiesceFollowsItsRequest : Obligations.QuiesceFollowsItsRequest := by
  unfold Obligations.QuiesceFollowsItsRequest
  intro s live
  have lives : ¬ s.resetN = true := by simp [live]
  have withdrawn (t : State) (h : s.withdrawQuiet = t) : exec .qreqDeassert s = .next t := congrArg Host.Outcome.next h
  have drains (draining : s.quiesce = .draining) : s.withdrawQuiet = State.enterRun { s with qreq := false } := by
    simp only [State.withdrawQuiet, if_neg lives, draining]
  refine ⟨fun run => ?_, fun other => ?_, fun draining started => withdrawn _ ?_,
    fun draining unstarted opened => withdrawn _ ?_, fun draining unstarted closed => withdrawn _ ?_, fun asleep => ?_,
    fun awake other => withdrawn _ ?_, fun draining tracker queue reads writes step patrol ops => ?_⟩
  · refine congrArg Host.Outcome.next ((if_pos ⟨live, run⟩).trans ?_)
    simp only [State.enterDraining, Engine.pause_mode]
  · exact congrArg Host.Outcome.next (if_neg fun h => other h.2)
  · rw [drains draining]
    exact enterRun_started (s := { s with qreq := false }) started
  · rw [drains draining]
    exact enterRun_opened (s := { s with qreq := false }) unstarted opened
  · rw [drains draining]
    exact enterRun_closed (s := { s with qreq := false }) unstarted closed
  · refine ⟨State.enterWaking { s with qreq := false }, withdrawn _ ?_, fun k => ?_, rfl⟩
    · simp only [State.withdrawQuiet, if_neg lives, asleep]
    · exact getElem_mapV (RankSched.placeWide .exit) s.ranks k
  · simp only [State.withdrawQuiet, if_neg lives]
    split
    next h => exact absurd h awake
    next h => exact absurd h other
    all_goals rfl
  · refine ⟨{ s.onRanks (RankSched.placeWide .entry) with quiesce := .entering }, ?_, fun k => ?_, rfl⟩
    · refine (s.live_next _ live).trans (congrArg Host.Outcome.next (if_pos ⟨draining, ?_⟩))
      exact State.drainCondition_of tracker queue reads writes step patrol ops
    · exact getElem_mapV (RankSched.placeWide .entry) s.ranks k

/-! ### Rank-wide operations that complete -/

section
variable {s : State} {k : RankNo} {f : RankSched → RankSched}

/-- Every rank has the state once the one changed and the others have. -/
theorem allRanks_onRank (x : RankState) (here : (f s.ranks[k]).state = x) :
    (s.onRank k f).allRanks x = true ↔ ∀ n : RankNo, n ≠ k → (s.ranks[n]).state = x := by
  rw [State.allRanks_iff]
  refine ⟨fun all n other => ?_, fun others n => ?_⟩
  · have := all n
    rwa [onRank_rank, if_neg other] at this
  · rw [onRank_rank]
    split
    · exact here
    next other => exact others n other

theorem RankSched.changing_eq_false_iff (r : RankSched) :
    r.changing = false ↔
      r.wide ≠ some .entry ∧ r.wide ≠ some .exit ∧ r.widePlaced ≠ some .entry ∧ r.widePlaced ≠ some .exit := by
  simp [RankSched.changing, and_assoc]

theorem noneChanging_onRank (here : (f s.ranks[k]).changing = false) :
    (s.onRank k f).noneChanging = true ↔ ∀ n : RankNo, n ≠ k → (s.ranks[n]).changing = false := by
  rw [State.noneChanging_iff]
  refine ⟨fun all n other => ?_, fun others n => ?_⟩
  · have := all n
    rwa [onRank_rank, if_neg other] at this
  · rw [onRank_rank]
    split
    · exact here
    next other => exact others n other

end

/-- Settles O44: along the quiesce states, a rank-wide operation that completes, the last of its kind or not. -/
theorem rankWideOperationsComplete : Obligations.RankWideOperationsComplete := by
  unfold Obligations.RankWideOperationsComplete
  intro k s live after asleep awake ready others settled onward
  have lives : ¬ s.resetN = true := by simp [live]
  have entered (entry : (s.ranks[k]).wide = some .entry) :
      exec (.selfRefreshEntryComplete k) s = .next (asleep.afterEntry k) :=
    congrArg Host.Outcome.next ((if_pos entry).trans (if_neg lives))
  have slept : asleep.allRanks .selfRefresh = true ↔ others .selfRefresh :=
    allRanks_onRank (s := s) (k := k) (f := fun r => { r with wide := none, state := .selfRefresh }) .selfRefresh rfl
  have onwardly (t : State) (level : t.qreq = s.qreq) : t.enterByRequest = onward t := by
    simp only [State.enterByRequest, level, onward]
  refine ⟨fun entry entering => ?_, fun entry waking => ?_, fun exit waking unplaced => ?_, fun init first => ?_⟩
  · have quiesce : asleep.quiesce = .entering := entering
    refine ⟨fun some_run => ?_, fun all_sleep held => ?_, fun all_sleep free => ?_⟩
    · rw [entered entry, State.afterEntry, quiesce]
      exact congrArg Host.Outcome.next (if_neg fun h => some_run (slept.1 h))
    · rw [entered entry, State.afterEntry, quiesce]
      exact congrArg Host.Outcome.next ((if_pos (slept.2 all_sleep)).trans (if_pos held))
    · refine ⟨asleep.enterWaking, ?_, fun n => getElem_mapV (RankSched.placeWide .exit) asleep.ranks n, rfl⟩
      rw [entered entry, State.afterEntry, quiesce]
      exact congrArg Host.Outcome.next ((if_pos (slept.2 all_sleep)).trans (if_neg fun h => by
        have : s.qreq = true := h
        rw [free] at this
        cases this))
  · have quiesce : asleep.quiesce = .waking := waking
    rw [entered entry, State.afterEntry, quiesce]
    refine congrArg Host.Outcome.next ?_
    simp only [asleep, after, State.onRank, RankSched.placeWide]
    congr 1
    simp
  · have last : (State.allRanks awake .operating = true ∧ State.noneChanging awake = true)
        ↔ others .operating ∧ ∀ n : RankNo, n ≠ k → settled s.ranks[n] := by
      refine and_congr (allRanks_onRank (s := s) (k := k)
        (f := fun r => { r with wide := none, state := .operating, debt := 0, timerOn := true }) .operating rfl) ?_
      refine (noneChanging_onRank (s := s) (k := k)
        (f := fun r => { r with wide := none, state := .operating, debt := 0, timerOn := true }) ?_).trans ?_
      · simp [RankSched.changing, unplaced, -Fin.getElem_fin]
      · simp only [RankSched.changing_eq_false_iff, settled]
    have exited : exec (.selfRefreshExitComplete k) s = .next
        (if awake.resetN = false ∧ awake.quiesce = .waking ∧ awake.allRanks .operating = true ∧ awake.noneChanging = true then
          awake.enterByRequest else awake) := congrArg Host.Outcome.next (if_pos exit)
    refine ⟨fun some_left => ?_, fun all_operate calm => ?_⟩
    · rw [exited, if_neg fun h => some_left (last.1 h.2.2)]
    · rw [exited, if_pos ⟨live, waking, last.2 ⟨all_operate, calm⟩⟩, onwardly awake rfl]
  · have last : ready.allRanks .operating = true ↔ others .operating :=
      allRanks_onRank (s := s) (k := k) (f := fun r => { r with wide := none, state := .operating, timerOn := true })
        .operating rfl
    have inited : exec (.rankInitComplete k) s = .next
        (if ready.resetN = false ∧ ready.quiesce = .init ∧ ready.allRanks .operating = true then ready.enterByRequest
          else ready) := congrArg Host.Outcome.next (if_pos init)
    refine ⟨fun some_left => ?_, fun all_operate => ?_⟩
    · rw [inited, if_neg fun h => some_left (last.1 h.2.2)]
    · rw [inited, if_pos ⟨live, first, last.2 all_operate⟩, onwardly ready rfl]

/-! ### The edges of RESET_N -/

theorem RankSched.warm_widePlaced (r : RankSched) :
    r.warm.widePlaced = if r.widePlaced = some .init then some .init else none := by
  cases placed : r.widePlaced with
  | none => simp [RankSched.warm, keptWide, placed]
  | some w => cases w <;> simp [RankSched.warm, keptWide, placed]

theorem SlotEntry.warm_phase (e : SlotEntry) :
    e.warm = match e.phase with
      | .copying n => { e with phase := .pending n, lost := 0 }
      | _ => e := by
  obtain ⟨home, current, phase, cause, lost⟩ := e
  cases phase <;> rfl

/-- An event offered before or after RUN is entered. -/
theorem enterRun_offer (s : State) (e : Event) : s.enterRun.offer e = (s.offer e).enterRun := by
  cases started : s.front.creditsStarted with
  | true =>
    rw [enterRun_started started, enterRun_started (s := s.offer e) started]
    rfl
  | false =>
    cases admission : s.front.admission with
    | opened =>
      rw [enterRun_opened started admission, enterRun_opened (s := s.offer e) started admission]
      rfl
    | closed =>
      rw [enterRun_closed started admission, enterRun_closed (s := s.offer e) started admission]
      rfl

theorem enterByRequest_offer (s : State) (e : Event) :
    s.enterByRequest.offer e = if s.qreq = true then (s.offer e).enterDraining else (s.offer e).enterRun := by
  simp only [State.enterByRequest]
  split
  · rfl
  · exact enterRun_offer s e

/-- Settles O45: the two edges, each block's part by the law of its reset. -/
theorem warmResetKeepsWhatItMust : Obligations.WarmResetKeepsWhatItMust := by
  unfold Obligations.WarmResetKeepsWhatItMust
  intro s
  refine ⟨fun live => ?_, fun reset => ?_⟩
  · refine ⟨s.assertReset, rfl, ?_, fun i => ?_, fun k => ?_⟩
    · have asserted : s.assertReset = _ := if_neg (by simp [live])
      rw [asserted]
      simp only [State.rebuiltQueue_eq]
      rfl
    · rw [State.assertReset, if_neg (by simp [live])]
      simp only [getElem_mapV]
      exact congrArg (fun f => (s.slots[i]).map f) (funext SlotEntry.warm_phase)
    · rw [State.assertReset, if_neg (by simp [live])]
      simp only [getElem_mapV]
      exact ⟨rfl, rfl, rfl, rfl, rfl, RankSched.warm_widePlaced _, RankSched.abandoned_bank _⟩
  · intro timers changing
    let v : State := { s.onRanks RankSched.release with resetN := false, port := { s.port with response := idleFrame } }
    have released : exec .warmResetRelease s = .next (v.quiesceFromRanks.offer (.resetSeen true)) :=
      congrArg Host.Outcome.next (if_pos reset)
    have rank (k : RankNo) : v.ranks[k] = timers s.ranks[k] := getElem_mapV ..
    have starts : (v.ranks.toList.any fun r => decide (r.state = .initializing)) = true
        ↔ ∃ k : RankNo, (s.ranks[k]).state = .initializing := by
      simp only [v.anyRank_iff, rank, timers]
    have changes : ((v.ranks.toList.any fun r => decide (r.state = .selfRefresh)) || !v.noneChanging) = true
        ↔ ∃ k : RankNo, changing s.ranks[k] := by
      have calm : v.noneChanging = true ↔ ∀ k : RankNo, (s.ranks[k]).changing = false := by
        rw [v.noneChanging_iff]
        exact forall_congr' fun k => by rw [rank]; rfl
      rw [Bool.or_eq_true, v.anyRank_iff, Bool.not_eq_true', ← Bool.not_eq_true, calm]
      simp only [rank, timers, changing, exists_or, not_forall, Bool.not_eq_false]
    refine ⟨_, v.offer (.resetSeen true), released, rfl, rank, fun some_starts => ?_, fun none_starts some_changes => ⟨?_, fun k => ?_⟩,
      fun all_operate => ?_⟩
    · rw [State.quiesceFromRanks, if_pos (starts.2 some_starts)]
      rfl
    · rw [State.quiesceFromRanks, if_neg fun h => (starts.1 h).elim none_starts, if_pos (changes.2 some_changes)]
      rfl
    · rw [State.quiesceFromRanks, if_neg fun h => (starts.1 h).elim none_starts, if_pos (changes.2 some_changes)]
      refine (getElem_mapV RankSched.wake v.ranks k).trans ?_
      rw [rank]
      rfl
    · have none_starts : ¬ ∃ k : RankNo, (s.ranks[k]).state = .initializing := fun ⟨k, h⟩ => by
        rw [(all_operate k).1] at h
        cases h
      rw [State.quiesceFromRanks, if_neg fun h => none_starts (starts.1 h),
        if_neg fun h => (changes.1 h).elim fun k => (all_operate k).2]
      exact enterByRequest_offer v _

end Sys2Proof.Machine
end

section
/-! PROOFS. Requests at the front link, refused and accepted, and the issue of reads and entries (R36 to R51). -/

namespace Sys2Proof.Machine

/-- Outside reset an event or a command of the port has its effect. -/
theorem next_of_live {s t : State} (live : s.resetN = false) :
    (Host.Outcome.next (if s.resetN then s else t) : Host.Outcome State Fault Refusal) = .next t := by
  rw [if_neg (by simp [live])]

/-! ### The outcome of the six checks (R39) -/

section
variable {s : State} {tag : Tag} {la : LineAddr} (live : s.resetN = false)
include live

theorem exec_read_refused {why : FrontReason} (fails : s.check tag la s.front.readBalance false = some why) :
    exec (.read tag la) s = .next (s.refuseRequest tag la why) := by
  refine (next_of_live live).trans ?_
  simp only [State.takeReadRequest, fails]

theorem exec_read_accepted (passes : s.check tag la s.front.readBalance false = none) :
    exec (.read tag la) s = .next (s.acceptRead tag la) := by
  refine (next_of_live live).trans ?_
  simp only [State.takeReadRequest, passes]

variable {data : LineData}

theorem exec_write_refused {why : FrontReason} (fails : s.check tag la s.front.writeBalance false = some why) :
    exec (.write tag la data) s = .next (s.refuseRequest tag la why) := by
  refine (next_of_live live).trans ?_
  simp only [State.takeWriteRequest, fails]

theorem exec_write_accepted (passes : s.check tag la s.front.writeBalance false = none) :
    exec (.write tag la data) s = .next (s.acceptWrite tag la data) := by
  refine (next_of_live live).trans ?_
  simp only [State.takeWriteRequest, passes]

/-- With all 64 flags on a MASKED WRITE is taken as a WRITE (R32). -/
theorem exec_maskedWrite_full : exec (.maskedWrite tag la (BitVec.allOnes 64) data) s = exec (.write tag la data) s :=
  ((next_of_live live).trans (congrArg Host.Outcome.next (if_pos rfl))).trans (next_of_live live).symm

variable {m : BitVec 64} (part : m ≠ BitVec.allOnes 64)
include part

theorem exec_maskedWrite_refused {why : FrontReason} (fails : s.check tag la s.front.writeBalance (m == 0) = some why) :
    exec (.maskedWrite tag la m data) s = .next (s.refuseRequest tag la why) := by
  refine (next_of_live live).trans ?_
  exact congrArg Host.Outcome.next ((if_neg part).trans (by simp only [State.takeMaskedRequest, fails]))

theorem exec_maskedWrite_accepted (passes : s.check tag la s.front.writeBalance (m == 0) = none) :
    exec (.maskedWrite tag la m data) s = .next (s.acceptMasked tag la m data) := by
  refine (next_of_live live).trans ?_
  exact congrArg Host.Outcome.next ((if_neg part).trans (by simp only [State.takeMaskedRequest, passes]))

end

/-! ### Refusals (R41, R54) -/

theorem decodeRefusal_eq (d : Decoded) :
    decodeRefusal d = match d with
      | .region _ .pool _ => some .pool
      | .shadow _ => some .shadow
      | .region _ .closed _ => some .closedRegion
      | _ => none := by
  rcases d with ⟨i, p, b⟩ | i | _
  · cases p <;> rfl
  · rfl
  · rfl

theorem State.refuseRequest_unrecorded (s : State) (tag : Tag) (la : LineAddr) {why : FrontReason}
    (quiet : why.recorded = false) : s.refuseRequest tag la why = { s with sent := s.sent ++ [.refusal tag why] } := by
  simp only [State.refuseRequest, quiet, Bool.false_eq_true, if_false]
  rfl

theorem State.refuseRequest_recorded (s : State) (tag : Tag) (la : LineAddr) {why : FrontReason} (counted : why.recorded = true) :
    s.refuseRequest tag la why = { s with
      sent := s.sent ++ [.refusal tag why]
      counters := s.counters.countRefusal why
      log := s.log.offer (.requestRefused tag why (homeLoc la)) } := by
  simp only [State.refuseRequest, counted, if_true]
  rfl

theorem FrontReason.recorded_iff (why : FrontReason) : why.recorded = false ↔ why = .closed ∨ why = .quiescing := by
  cases why <;> simp [FrontReason.recorded]

/-- Settles O13: each request's checks are the one chain, and the refusal of its reason follows. -/
theorem requestIsRefused : Obligations.RequestIsRefused := by
  unfold Obligations.RequestIsRefused
  intro c tag la balance noByte why s request live fails
  have checked : s.check tag la balance noByte = some why := by
    refine Eq.trans ?_ fails
    simp only [State.check, decodeRefusal_eq, FrontLink.tagHeld_iff] <;> rfl
  have refused : exec c s = .next (s.refuseRequest tag la why) := by
    rcases request with ⟨rfl, rfl, rfl⟩ | ⟨d, rfl, rfl, rfl⟩ | ⟨m, d, rfl, rfl, noByte⟩
    · exact exec_read_refused live checked
    · exact exec_write_refused live checked
    · by_cases full : m = BitVec.allOnes 64
      · subst full
        have bytes : decide (BitVec.allOnes 64 = 0) = false := by decide
        rw [exec_maskedWrite_full live]
        exact exec_write_refused live (by rwa [noByte, bytes] at checked)
      · refine exec_maskedWrite_refused live full ?_
        rwa [noByte] at checked
  rw [refused]
  split
  next quiet => rw [s.refuseRequest_unrecorded tag la ((why.recorded_iff).2 quiet)]
  next loud =>
    rw [← FrontReason.recorded_iff, Bool.not_eq_false] at loud
    rw [s.refuseRequest_recorded tag la loud]
    cases why <;> simp only [Counters.countRefusal, countUp_eq_satInc]

/-! ### Accepted READs (R43, R45) -/

theorem State.acceptRead_forwarded (s : State) (tag : Tag) (la : LineAddr) {e : QueueEntry} {f : LineForm}
    (newest : s.newestEntry la = some e) (holds : e.state = .queued f ∨ e.state = .held f ∨ ∃ n, e.state = .issued f n) (opened : s.front.admission = .opened) :
    s.acceptRead tag la = { s with
      front := { s.front with readBalance := s.front.readBalance - 1, readOwed := s.front.readOwed + 1 }
      sent := s.sent ++ [.readData tag (formData f) (formResult f)] } := by
  have found : s.takeRead.newestEntry la = some e := newest
  have answered : s.acceptRead tag la = (s.takeRead.send (.readData tag (formData f) (formResult f))).oweReads 1 := by
    simp only [State.acceptRead, found]
    rcases holds with holds | holds | ⟨n, holds⟩ <;> rw [holds]
  have admission : (s.takeRead.send (.readData tag (formData f) (formResult f))).front.admission = .opened := opened
  rw [answered, State.oweReads_eq, admission]
  rfl

/-- Settles O12: by the state of the newest entry of the line. -/
theorem readIsAccepted : Obligations.ReadIsAccepted := by
  unfold Obligations.ReadIsAccepted
  intro tag la s live opened run credit free decodes
  have accepted := exec_read_accepted live ((s.check_none_iff tag la _ _).2 ⟨opened, run, credit, free, rfl, decodes⟩)
  refine ⟨fun none_there => ?_, fun older newer e newest => ?_⟩
  · have found : s.takeRead.newestEntry la = none := s.newestEntry_none none_there
    rw [accepted, State.acceptRead, found]
    rfl
  · have newest := s.newestEntry_of newest
    have forwarded {f : LineForm} (holds : e.state = .queued f ∨ e.state = .held f ∨ ∃ n, e.state = .issued f n) :
        exec (.read tag la) s = .next { s with
          front := { s.front with readBalance := s.front.readBalance - 1, readOwed := s.front.readOwed + 1 }
          sent := s.sent ++ [.readData tag (formData f) (formResult f)] } := by
      rw [accepted, s.acceptRead_forwarded tag la newest holds opened]
    cases state : e.state with
    | merging t _ _ _ =>
      have found : s.takeRead.newestEntry la = some e := newest
      simp only [accepted, State.acceptRead, found, state]
      rfl
    | queued f => exact (forwarded (.inl state)).trans (by cases f <;> rfl)
    | held f => exact (forwarded (.inr (.inl state))).trans (by cases f <;> rfl)
    | issued f n => exact (forwarded (.inr (.inr ⟨n, state⟩))).trans (by cases f <;> rfl)

/-! ### Accepted WRITEs (R40, R47) -/

section
variable (s : State) (tag : Tag) {la : LineAddr} (data : LineData)

/-- A write coalesced into the newest entry, its message sent and its credit owed. -/
theorem State.coalesced_eq (m : HostMsg) {g : LineForm} {older newer : List QueueEntry} {e : QueueEntry}
    (newest : newestFor s.front.queue older newer la e) (opened : s.front.admission = .opened) :
    (((s.takeWrite la).send m).setNewest la (.queued g)).oweWrite = { s.supersede la with
      sent := s.sent ++ [m]
      front := { s.front with
        writeBalance := s.front.writeBalance - 1
        writeOwed := s.front.writeOwed + 1
        queue := older ++ { la := la, state := .queued g } :: newer } } := by
  obtain ⟨queue, rfl, rest⟩ := newest
  have replaced : ((s.takeWrite e.la).send m).setNewest e.la (.queued g)
      = ((s.takeWrite e.la).send m).setQueue (older ++ { e with state := .queued g } :: newer) :=
    State.setNewest_of ((s.takeWrite e.la).send m) ⟨queue, rfl, rest⟩ _
  have admission : (((s.takeWrite e.la).send m).setQueue
      (older ++ { e with state := .queued g } :: newer)).front.admission = .opened := opened
  rw [replaced, State.oweWrite_eq, admission]
  rfl

/-- A write that takes a new entry, its message sent. -/
theorem State.entered_eq (m : HostMsg) (st : EntryState) :
    ((s.takeWrite la).send m).enqueue la st = { s.supersede la with
      sent := s.sent ++ [m]
      front := { s.front with
        writeBalance := s.front.writeBalance - 1
        queue := s.front.queue ++ [{ la := la, state := st }] } } := rfl

end

/-- Settles O14: into a QUEUED newest entry of the line, or as a new entry. -/
theorem writeIsAccepted : Obligations.WriteIsAccepted := by
  unfold Obligations.WriteIsAccepted
  intro c tag la d s request live opened run credit free decodes
  have accepted : exec c s = .next (s.acceptWrite tag la d) := by
    have write := exec_write_accepted (data := d) live
      ((s.check_none_iff tag la _ _).2 ⟨opened, run, credit, free, rfl, decodes⟩)
    rcases request with rfl | rfl
    · exact write
    · exact (exec_maskedWrite_full live).trans write
  have same : ((s.takeWrite la).send (.writeAck tag .done)).newestEntry la = s.newestEntry la := rfl
  refine ⟨fun older newer e f newest queued => ?_, fun other => ?_⟩
  · obtain ⟨eLa, eState⟩ := e
    obtain rfl : eState = .queued f := queued
    rw [accepted, State.acceptWrite]
    simp only [same, s.newestEntry_of newest]
    exact congrArg Host.Outcome.next (s.coalesced_eq (.writeAck tag .done) newest opened)
  · rw [accepted, State.acceptWrite]
    simp only [same]
    split
    next found =>
      obtain ⟨older, newer, newest⟩ := s.newestEntry_some found
      exact absurd rfl (other older newer _ _ newest)
    next => exact congrArg Host.Outcome.next (s.entered_eq (.writeAck tag .done) _)

/-! ### Accepted MASKED WRITEs (R48, R49) -/

theorem mergeForm_eq (f : LineForm) (m : BitVec 64) (d : LineData) :
    mergeForm f m d = match f with
      | .data old => .data (Vector.ofFn fun i : Fin 64 => if m.getLsbD i.val then d[i] else old[i])
      | .poison => .poison := by
  cases f <;> rfl

theorem formAck_mergeForm (f : LineForm) (m : BitVec 64) (d : LineData) :
    formAck (mergeForm f m d) = if f = .poison then .mergedPoison else .done := by
  cases f <;> rfl

/-- Settles O15: by the state of the newest entry of the line. -/
theorem maskedWriteIsAccepted : Obligations.MaskedWriteIsAccepted := by
  unfold Obligations.MaskedWriteIsAccepted
  intro tag la m d s some_byte part live opened run credit free decodes fresh merged ack
  have accepted : exec (.maskedWrite tag la m d) s = .next (s.acceptMasked tag la m d) :=
    exec_maskedWrite_accepted live part
      ((s.check_none_iff tag la _ _).2 ⟨opened, run, credit, free, by simpa using some_byte, decodes⟩)
  have same : (s.takeWrite la).newestEntry la = s.newestEntry la := rfl
  have contents (f : LineForm) : mergeForm f m d = merged f := mergeForm_eq f m d
  have message (f : LineForm) : HostMsg.writeAck tag (formAck (merged f)) = ack f := by
    rw [← contents, formAck_mergeForm]
  refine ⟨fun none_there => ?_, fun older newer e newest => ?_⟩
  · rw [accepted, State.acceptMasked]
    simp only [same, s.newestEntry_none none_there]
    rfl
  · rw [accepted, State.acceptMasked]
    simp only [same, s.newestEntry_of newest]
    cases state : e.state with
    | merging => rfl
    | queued f =>
      simp only [contents, message]
      exact congrArg Host.Outcome.next (s.coalesced_eq (ack f) newest opened)
    | held f =>
      simp only [contents, message]
      exact congrArg Host.Outcome.next (s.entered_eq (ack f) _)
    | issued f n =>
      simp only [contents, message]
      exact congrArg Host.Outcome.next (s.entered_eq (ack f) _)

/-! ### Issue (R44, R49, R51) -/

/-- An entry passed to the router, by its route. -/
theorem State.passEntry_eq (s : State) {la : LineAddr} (f : LineForm) {older newer : List QueueEntry} {e : QueueEntry}
    (oldest : oldestFor s.front.queue older newer la e) : s.passEntry la f = s.passedOn la f older newer := by
  obtain ⟨queue, rfl, rest⟩ := id oldest
  rcases s.passEntry_cases e.la f oldest with ⟨route, passed⟩ | ⟨route, passed⟩ | ⟨locs, route, passed⟩
  · rw [passed, State.oweWrite_eq, State.passedOn, route]
    rfl
  · rw [passed, State.passedOn, route]
    rfl
  · have same : (locs.foldl (State.placeEntryWrite e.la f) s).front = s.front := by
      rw [State.placeEntryWrites_eq]
    rw [passed, State.passedOn, route]
    simp only [State.setQueue, same]

/-- Settles O16: the read of the tag, the entry of the merge, or the entry of the line found, and its part by the router. -/
theorem workIsIssued : Obligations.WorkIsIssued := by
  unfold Obligations.WorkIsIssued
  intro tag la s live l
  refine ⟨fun before after tracked => ?_, fun older newer m d oldest others => ?_, fun f older newer oldest free => ?_⟩
  · obtain ⟨tracker, earlier⟩ := tracked
    have found : s.front.tracker.find? (fun t => decide (t.tag = tag)) = some { tag := tag, la := la, state := .waiting } := by
      rw [tracker]
      exact find_split _ _ _ _ (fun y hy => by simpa using earlier y hy) (by simp)
    refine (next_of_live live).trans (congrArg Host.Outcome.next ?_)
    simp only [State.issueWaiting, found, State.setRead, State.place_front]
    rw [tracker, replaceFirst_split _ _ _ _ _ (fun y hy => by simpa using earlier y hy) (by simp)]
    rfl
  · obtain ⟨queue, -, earlier⟩ := id oldest
    have found : s.front.queue.find? (QueueEntry.mergingWith tag) = some { la := la, state := .merging tag m d false } := by
      rw [queue]
      refine find_split _ _ _ _ (fun y hy => ?_) (by simp [QueueEntry.mergingWith])
      have := others y hy
      obtain ⟨yLa, yState⟩ := y
      cases yState <;> simp_all [QueueEntry.mergingWith, QueueEntry.tag]
    refine (next_of_live live).trans (congrArg Host.Outcome.next ?_)
    simp only [State.issueMergeRead, found, s.oldestEntry_of oldest, if_true]
    exact State.setOldest_of (s.place { kind := .mergeRead tag (s.readRoute la).1, la := la, loc := (s.readRoute la).2 })
      (older := older) (newer := newer) oldest _
  · have ready : s.front.noEarlierRead la = true := by
      simp only [FrontLink.noEarlierRead, List.all_eq_true]
      intro t ht
      by_cases same : t.la = la
      · simp [free t ht same]
      · simp [same]
    refine (next_of_live live).trans (congrArg Host.Outcome.next ?_)
    simp only [State.issueEntry, s.oldestEntry_of oldest, if_pos ready]
    exact s.passEntry_eq f oldest

end Sys2Proof.Machine
end

section
/-! PROOFS. Completed writes (R52, R70, R136) and the move engine: jobs, line steps, move reads and target writes (R101 to
R108, R111 to R113). -/

namespace Sys2Proof.Machine

/-! ### Completions of what no reset has found in progress -/

section
variable {s : State} {k : RankNo} {b : BankNo} {d : Option StoredLine} {la : LineAddr} {l : Loc} {mark : Bool}

theorem hostRead_completes {tag : Tag} {cls : RouteClass}
    (carried : s.carries k b { kind := .hostRead tag cls, la := la, loc := l, superseded := mark }) :
    exec (.hostReadComplete k b d) s =
      .next (((s.freeBank k b).sense l d).1.requestReadDone false tag cls la l ((s.freeBank k b).sense l d).2) :=
  (exec_hostReadComplete carried.1 rfl).trans (congrArg Host.Outcome.next (if_neg (by simp)))

theorem mergeRead_completes {tag : Tag} {cls : RouteClass}
    (carried : s.carries k b { kind := .mergeRead tag cls, la := la, loc := l, superseded := mark }) :
    exec (.mergeReadComplete k b d) s =
      .next (((s.freeBank k b).sense l d).1.requestReadDone true tag cls la l ((s.freeBank k b).sense l d).2) :=
  (exec_mergeReadComplete carried.1 rfl).trans (congrArg Host.Outcome.next (if_neg (by simp)))

theorem failoverRead_completes {tag : Tag} {merge : Bool} {i : RegionIx} {born : Nat}
    (carried : s.carries k b { kind := .failoverRead tag merge i born, la := la, loc := l, superseded := mark }) :
    exec (.failoverReadComplete k b d) s =
      .next (((s.freeBank k b).sense l d).1.failoverDone tag merge i born la l mark ((s.freeBank k b).sense l d).2) :=
  (exec_failoverReadComplete carried.1 rfl).trans (congrArg Host.Outcome.next (if_neg (by simp)))

theorem moveRead_completes (carried : s.carries k b { kind := .moveRead, la := la, loc := l, superseded := mark }) :
    exec (.moveReadComplete k b d) s =
      .next (((s.freeBank k b).sense l d).1.moveReadDone ((s.freeBank k b).sense l d).2) :=
  (exec_moveReadComplete carried.1 rfl).trans (congrArg Host.Outcome.next (if_neg (by simp)))

theorem patrolRead_completes {turn : PatrolTurn}
    (carried : s.carries k b { kind := .patrolRead turn, la := la, loc := l, superseded := mark }) :
    exec (.patrolReadComplete k b d) s =
      .next (((s.freeBank k b).sense l d).1.patrolReadDone turn la l mark ((s.freeBank k b).sense l d).2) :=
  (exec_patrolReadComplete carried.1 rfl).trans (congrArg Host.Outcome.next (if_neg (by simp)))

theorem entryWrite_completes {f : LineForm} {cls : WriteClass}
    (carried : s.carries k b { kind := .entryWrite f cls, la := la, loc := l, superseded := mark }) :
    exec (.entryWriteComplete k b) s = .next (((s.freeBank k b).storeForm l f).entryWriteDone la) :=
  (exec_entryWriteComplete carried.1 rfl).trans (congrArg Host.Outcome.next (if_neg (by simp)))

theorem targetWrite_completes {f : LineForm}
    (carried : s.carries k b { kind := .targetWrite f, la := la, loc := l, superseded := mark }) :
    exec (.targetWriteComplete k b) s = .next ((s.freeBank k b).storeForm l f).endStep :=
  (exec_targetWriteComplete carried.1 rfl).trans (congrArg Host.Outcome.next (if_neg (by simp)))

theorem repairWrite_completes {data : LineData} {i : RegionIx} {side : Side} {patrol : Bool} {cls : WriteClass}
    (carried : s.carries k b { kind := .repairWrite data i side patrol cls, la := la, loc := l, superseded := mark }) :
    exec (.repairWriteComplete k b) s =
      .next (((s.freeBank k b).storeForm l (.data data)).repairWritten i side patrol la) :=
  (exec_repairWriteComplete carried.1 rfl).trans (congrArg Host.Outcome.next (if_neg (by simp)))

theorem scrubWrite_completes {data : LineData} {cls : WriteClass}
    (carried : s.carries k b { kind := .scrubWrite data cls, la := la, loc := l, superseded := mark }) :
    exec (.scrubWriteComplete k b) s = .next ((s.freeBank k b).storeForm l (.data data)).scrubWritten :=
  (exec_scrubWriteComplete carried.1 rfl).trans (congrArg Host.Outcome.next (if_neg (by simp)))

end

/-! ### Completed writes (R52, R70, R125, R136) -/

/-- The last rank write of an entry takes it off the queue; any other leaves it with one fewer outstanding (R52). -/
theorem State.entryWriteDone_of (s : State) {la : LineAddr} {g : LineForm} {left : Nat} {older newer : List QueueEntry}
    (oldest : oldestFor s.front.queue older newer la { la := la, state := .issued g (left + 1) }) :
    s.entryWriteDone la =
      if left = 0 then (s.setQueue (older ++ newer)).oweWrite
      else s.setQueue (older ++ { la := la, state := .issued g left } :: newer) := by
  simp only [State.entryWriteDone, s.oldestEntry_of oldest]
  by_cases last : left = 0
  · rw [if_pos last, if_pos (by omega), s.dropOldest_of oldest]
  · rw [if_neg last, if_neg (by omega), s.setOldest_of oldest, Nat.add_sub_cancel]

/-- Settles O27: the entry's account, the repair's counter and event, the scrub's counter. -/
theorem writesAreStored : Obligations.WritesAreStored := by
  unfold Obligations.WritesAreStored
  intro k b la l mark s w
  refine ⟨fun f g cls left older newer carried oldest => ?_, fun data i side patrol cls carried => ?_, fun data cls carried => ?_⟩
  · have done := (entryWrite_completes carried)
    rw [State.entryWriteDone_of (s := (s.freeBank k b).storeForm l f) oldest] at done
    by_cases last : left = 0
    · rw [if_pos last, State.oweWrite_eq] at done
      rw [if_pos last]
      exact done
    · rw [if_neg last] at done
      rw [if_neg last]
      exact done
  · refine (repairWrite_completes carried).trans (congrArg Host.Outcome.next ?_)
    cases patrol with
    | true =>
      simp only [State.repairWritten, if_true, State.patrolDone_eq, ← countUp_eq_satInc]
      rfl
    | false =>
      simp only [State.repairWritten, ← countUp_eq_satInc]
      rfl
  · refine (scrubWrite_completes carried).trans (congrArg Host.Outcome.next ?_)
    simp only [State.scrubWritten, State.patrolDone_eq, ← countUp_eq_satInc]
    rfl

/-! ### Jobs and line steps begin (R101 to R103) -/

/-- The move read of a line waits exactly while an entry for the line is ISSUED (R103). -/
theorem FrontLink.issuedFor_iff (f : FrontLink) (la : LineAddr) :
    f.issuedFor la = true ↔ ∃ e ∈ f.queue, e.la = la ∧ ∃ g n, e.state = .issued g n := by
  simp only [FrontLink.issuedFor, List.any_eq_true, Bool.and_eq_true, decide_eq_true_eq]
  refine exists_congr fun e => and_congr Iff.rfl (and_congr Iff.rfl ?_)
  cases e.state <;> simp

/-- A line step begins with its move read, or waits for an ISSUED entry for its line (R103). -/
theorem State.beginStep_eq {s : State} {j : Job} {la : LineAddr} {source target : Loc} (running : s.engine.mode = .running)
    (run : s.quiesce = .run) (job : s.engine.job = some j) (idle : j.step = none) (opened : j.closed = false)
    (short : j.p < j.length) (place : s.stepPlace j j.p = some (la, source, target)) :
    s.beginStep =
      if s.front.issuedFor la then s
      else { s with
        ranks := s.ranksWith (placedOp .moveRead la source)
        engine := { s.engine with job := some { j with
          step := some { position := j.p, la := la, source := source, target := target, phase := .reading, held := none,
                         discarded := false, lost := false } } } } := by
  simp only [State.beginStep, if_pos (And.intro running run), job, if_pos (And.intro idle (And.intro opened short)), place]
  rfl

/-- Settles O39: the head of the job queue by its kind, and the step of the pointer's position by the job's. -/
theorem jobsAndStepsBegin : Obligations.JobsAndStepsBegin := by
  unfold Obligations.JobsAndStepsBegin
  intro s live run
  refine ⟨fun idle => ⟨fun i rest e next queue slot pending => ?_, fun i rest m queue record rebuilds => ?_⟩,
    fun running j job noStep opened short => ?_⟩
  · refine (next_of_live live).trans (congrArg Host.Outcome.next ?_)
    obtain ⟨home, current, phase, cause, lost⟩ := e
    subst pending
    simp only [State.startJob, if_pos (And.intro idle run), queue, State.startRowMove, slot]
    rfl
  · refine (next_of_live live).trans (congrArg Host.Outcome.next ?_)
    simp only [State.startJob, if_pos (And.intro idle run), queue, State.startResync, record]
    rcases rebuilds with state | state
    · simp only [state, MirrorState.rebuilding]
      rfl
    · simp only [state, MirrorState.rebuilding]
      rfl
  · intro reading begins
    have leads {la : LineAddr} {source target : Loc} (place : s.stepPlace j j.p = some (la, source, target)) :
        begins la source target := by
      have begun := (next_of_live live).trans
        (congrArg Host.Outcome.next (State.beginStep_eq running run job noStep opened short place))
      refine ⟨fun busy => begun.trans ?_, fun free => begun.trans ?_⟩
      · rw [if_pos ((s.front.issuedFor_iff la).2 busy)]
      · rw [if_neg (mt (s.front.issuedFor_iff la).1 free)]
    refine ⟨fun i e source target ref ends slot _ => leads ?_, fun i source ref ends => leads ?_⟩
    · simp only [State.stepPlace, ref, ends, slot]
    · simp only [State.stepPlace, ref, ends]

/-! ### Move reads (R104, R105) -/

/-- The target write of the step placed, with the lines counted lost and the step's memory of it as given (R104, R105). -/
def State.carriedOn (s : State) (j : Job) (st : LineStep) (f : LineForm) (lost : Nat) (counted : Bool) : State :=
  { s with
    ranks := s.ranksWith (placedOp (.targetWrite f) st.la st.target)
    engine := { s.engine with job := some { j with
      lost := lost
      step := some { st with phase := .writing, lost := counted } } } }

section
variable {s : State} {j : Job} {st : LineStep} {rd : Reading} (job : s.engine.job = some j) (step : j.step = some st)
include job step

theorem State.moveReadDone_kept (kept : ¬ (rd.outcome = .uncorrectable ∧ st.discarded = false)) :
    s.moveReadDone rd = s.carriedOn j st rd.form j.lost st.lost := by
  simp only [State.moveReadDone, job, step, if_neg kept]
  rfl

theorem State.moveReadDone_lost (bad : rd.outcome = .uncorrectable) (whole : st.discarded = false) :
    s.moveReadDone rd =
      (s.carriedOn j st rd.form j.lost st.lost).loseLine { j with step := some { st with phase := .writing } } st := by
  simp only [State.moveReadDone, job, step, if_pos (And.intro bad whole)]
  rfl

end

/-- A line lost by a row move (R90, R105). -/
theorem State.loseLine_rowMove {s : State} {j : Job} {st : LineStep} {i : SlotIx} {e : SlotEntry} (f : LineForm)
    (ref : j.ref = .rowMove i) (slot : s.slots[i] = some e) :
    (s.carriedOn j st f j.lost st.lost).loseLine { j with step := some { st with phase := .writing } } st =
      { s.carriedOn j st f (j.lost + 1) true with
        slots := s.slots.set i (some { e with lost := e.lost + 1 })
        log := s.log.offer (.uncorrectable .copy st.source) } := by
  have slot' : (s.carriedOn j st f j.lost st.lost).slots[i] = some e := slot
  obtain ⟨_, _, _, _, _, _, _⟩ := j
  subst ref
  simp only [State.loseLine, slot']
  rfl

/-- A line lost by a resync (R105, R117). -/
theorem State.loseLine_resync {s : State} {j : Job} {st : LineStep} {i : RegionIx} {side : Side} {m : MirrorRecord}
    (f : LineForm) (ref : j.ref = .resync i) (ends : j.ends = .sides side) (record : s.mirrors[i] = some m) :
    (s.carriedOn j st f j.lost st.lost).loseLine { j with step := some { st with phase := .writing } } st =
      State.sideReport { s.carriedOn j st f (j.lost + 1) true with log := s.log.offer (.uncorrectable .resync st.source) } i
        side m.born := by
  have record' : (s.carriedOn j st f j.lost st.lost).mirrors[i] = some m := record
  obtain ⟨_, _, _, _, _, _, _⟩ := j
  subst ref
  subst ends
  simp only [State.loseLine, State.offer_mirrors, record']
  rfl

/-- Settles O40: the target write placed, and the loss counted for the kind of job. -/
theorem moveReadIsCarriedOn : Obligations.MoveReadIsCarriedOn := by
  unfold Obligations.MoveReadIsCarriedOn
  intro k b d la l mark j st s carried job step r form moved
  have engine : r.1.engine = s.engine := by
    simp only [r, State.sense_eq]
    rfl
  have log : r.1.log = s.log := by
    simp only [r, State.sense_eq]
    rfl
  have slots : r.1.slots = s.slots := by
    simp only [r, State.sense_eq]
    rfl
  have mirrors : r.1.mirrors = s.mirrors := by
    simp only [r, State.sense_eq]
    rfl
  have formed : r.2.form = form := by
    simp only [Reading.form, form]
    cases r.2.outcome <;> rfl
  have carries (lost : Nat) (counted : Bool) : r.1.carriedOn j st r.2.form lost counted = moved lost counted := by
    rw [formed, State.carriedOn, engine]
  have done : exec (.moveReadComplete k b d) s = .next (r.1.moveReadDone r.2) :=
    moveRead_completes carried
  have job' : r.1.engine.job = some j := by rw [engine, job]
  refine ⟨fun kept => ?_, fun bad whole => ⟨fun i e ref slot => ?_, fun i side m ref ends record => ?_⟩⟩
  · rw [done, State.moveReadDone_kept job' step (by rcases kept with h | h <;> simp [h]), carries]
  · have slot' : r.1.slots[i] = some e := by rw [slots, slot]
    rw [done, State.moveReadDone_lost job' step bad whole, State.loseLine_rowMove _ ref slot', carries, slots, log]
  · have record' : r.1.mirrors[i] = some m := by rw [mirrors, record]
    rw [done, State.moveReadDone_lost job' step bad whole, State.loseLine_resync _ ref ends record', carries, log]

/-! ### The end of a step (R106 to R108, R111 to R113) -/

/-- The release of a held entry passes it to the router again (R107). -/
theorem State.released_releaseHeld (t : State) (held : Option LineAddr) : t.released held (t.releaseHeld held) := by
  cases held with
  | none => rfl
  | some la =>
    intro f older newer oldest
    simp only [State.releaseHeld, t.oldestEntry_of oldest]
    exact t.passEntry_eq f oldest

section
variable {s : State} {j : Job} {st : LineStep} (job : s.engine.job = some j) (step : j.step = some st)
include job step

/-- A discarded step ends without a move of the pointer, and the job with it where it is closed (R111 to R113). -/
theorem State.endStep_discarded (gone : st.discarded = true) :
    s.endStep =
      if j.closed then { s with engine := { s.engine with mode := .idle, job := none } }
      else { s with engine := { s.engine with mode := s.modeAfterStep, job := some { j with step := none } } } := by
  simp only [State.endStep, job, step, if_pos gone]

/-- A step before the last moves the pointer past its position (R106). -/
theorem State.endStep_moves (whole : st.discarded = false) (more : st.position + 1 ≠ j.length) :
    s.endStep =
      State.releaseHeld { s with engine := { s.engine with
        mode := s.modeAfterStep
        job := some { j with p := st.position + 1, step := none } } } st.held := by
  simp only [State.endStep, job, step, whole, if_neg more, Bool.false_eq_true, if_false]

/-- The last step completes its job (R108). -/
theorem State.endStep_last (whole : st.discarded = false) (last : st.position + 1 = j.length) :
    s.endStep = (s.completeJob j).releaseHeld st.held := by
  simp only [State.endStep, job, step, whole, if_pos last, Bool.false_eq_true, if_false]

end

/-- A row move complete: the slot ACTIVE at its next location (R91). -/
theorem State.completeJob_rowMove {s : State} {j : Job} {i : SlotIx} {e : SlotEntry} {next : RowNo} (ref : j.ref = .rowMove i)
    (slot : s.slots[i] = some e) (copying : e.phase = .copying next) :
    s.completeJob j = { s with
      engine := { s.engine with mode := .idle, job := none }
      slots := s.slots.set i (some { e with current := next, phase := .active })
      log := s.log.offer (.moveDone i e.lost) } := by
  simp only [State.completeJob, ref, State.rowMoveDone, slot, copying]
  rfl

/-- A resync complete: the region DUPLEX with counts of 0 (R108, R122). -/
theorem State.completeJob_resync {s : State} {j : Job} {i : RegionIx} {m : MirrorRecord} (ref : j.ref = .resync i)
    (record : s.mirrors[i] = some m) :
    s.completeJob j = { s with
      engine := { s.engine with mode := .idle, job := none }
      mirrors := s.mirrors.set i (some { m with state := .duplex, primaryCount := 0, shadowCount := 0 })
      log := s.log.offer (.resyncDone i j.lost) } := by
  simp only [State.completeJob, ref, State.resyncDone, record]
  rfl

/-- Settles O41: the step's end by its mark and its position, then the release. -/
theorem targetWriteEndsTheStep : Obligations.TargetWriteEndsTheStep := by
  unfold Obligations.TargetWriteEndsTheStep
  intro k b f la l mark j st s carried job step w mode finished leads
  have done : exec (.targetWriteComplete k b) s = .next w.endStep := targetWrite_completes carried
  have passes {t : State} (ends : w.endStep = t.releaseHeld st.held) : leads t := by
    rw [ends] at done
    exact ⟨_, done, t.released_releaseHeld st.held⟩
  refine ⟨fun gone opened => ?_, fun gone closed => ?_, fun whole more => ?_, fun whole last =>
    ⟨fun i e next ref slot copying => ?_, fun i m ref record => ?_⟩⟩
  · rw [done, State.endStep_discarded (s := w) job step gone, if_neg (by simp [opened])]
    rfl
  · rw [done, State.endStep_discarded (s := w) job step gone, if_pos closed]
    rfl
  · exact passes (State.endStep_moves (s := w) job step whole more)
  · refine passes ((State.endStep_last (s := w) job step whole last).trans ?_)
    rw [State.completeJob_rowMove (s := w) ref slot copying]
    rfl
  · refine passes ((State.endStep_last (s := w) job step whole last).trans ?_)
    rw [State.completeJob_resync (s := w) ref record]
    rfl

end Sys2Proof.Machine
end

section
/-! PROOFS. Where reads and writes go (R57 to R64) and what the notices mark (R68). -/

namespace Sys2Proof.Machine

/-! ### The entry of a home row (R76) -/

theorem State.entryHomed_none {s : State} {r : PhysRow} (apart : ∀ n : SlotIx, ∀ e ∈ s.slots[n], e.home ≠ r) :
    s.entryHomed r = none := by
  rw [State.entryHomed, List.find?_eq_none]
  rintro ⟨n, e⟩ used
  simpa using apart n e ((s.mem_slotsInUse n e).1 used)

/-- With distinct home rows, the lookup finds the entry of the row. -/
theorem State.entryHomed_of {s : State} (distinct : s.HomesApart) {r : PhysRow} {n : SlotIx} {e : SlotEntry}
    (used : s.slots[n] = some e) (home : e.home = r) : s.entryHomed r = some (n, e) := by
  have there := (s.mem_slotsInUse n e).2 used
  cases found : s.entryHomed r with
  | none => exact absurd (List.find?_eq_none.1 found _ there) (by simp [home])
  | some x =>
    obtain ⟨i, f⟩ := x
    have used' : s.slots[i] = some f := (s.mem_slotsInUse i f).1 (List.mem_of_find?_eq_some found)
    have home' : f.home = r := by simpa using List.find?_some found
    obtain rfl : i = n := distinct i n f used' e used (home'.trans home.symm)
    rw [used] at used'
    rw [Option.some.inj used']

theorem SlotEntry.atCol_current (e : SlotEntry) {la : LineAddr} (home : e.home = homeRow la) :
    e.currentRow.atCol (colOf la) = { homeLoc la with row := e.current } := by
  rw [SlotEntry.currentRow, home]
  rfl

/-- Settles O20: along the decode of the line, and the mirror states. -/
theorem readsGoWhereTheDataIs : Obligations.ReadsGoWhereTheDataIs := by
  unfold Obligations.ReadsGoWhereTheDataIs
  intro la s distinct
  cases decode : decodeRow s.active (homeRow la) with
  | undecoded => simp only [State.readRoute, decode]
  | shadow i => simp only [State.readRoute, decode]
  | region i policy patrol =>
    cases policy with
    | plain => simp only [State.readRoute, decode]
    | pool => simp only [State.readRoute, decode]
    | closed => simp only [State.readRoute, decode]
    | spared =>
      refine ⟨fun apart => ?_, fun n e used home => ?_⟩
      · simp only [State.readRoute, decode, State.entryHomed_none apart]
      · simp only [State.readRoute, decode, State.entryHomed_of distinct used home, e.atCol_current home]
    | mirrored =>
      intro m record
      simp only [State.readRoute, decode, Option.mem_def.1 record]
      cases state : m.state with
      | simplexShadow | rebuildPrimary => simp [MirrorState.readSide, sideLoc, rankAbove]
      | duplex | simplexPrimary | rebuildShadow => simp [MirrorState.readSide, sideLoc]

/-! ### The copy window (R60, R61) -/

/-- The pointer and the step of the window are those of its job in progress, 0 and none otherwise (R60). -/
theorem State.windowIs_iff (s : State) (ref : JobRef) (p : Nat) (stepping : Bool) :
    s.windowIs ref p stepping ↔ p = s.windowP ref ∧ stepping = s.windowStepping ref := by
  cases job : s.engine.job with
  | none => simp [State.windowIs, State.windowP, State.windowStepping, State.jobFor, job]
  | some j =>
    by_cases mine : j.ref = ref ∧ j.closed = false
    · cases step : j.step <;>
        simp only [State.windowIs, State.windowP, State.windowStepping, State.jobFor, job, if_pos mine, step]
    · simp only [State.windowIs, State.windowP, State.windowStepping, State.jobFor, job, if_neg mine]

theorem windowWrite_eq (position p : Nat) (stepping : Bool) (source target : Loc) :
    windowWrite position p stepping source target =
      if position < p then .places [source, target]
      else if p < position then .places [source]
      else if stepping = true then .hold
      else .places [source] := by
  rcases Nat.lt_trichotomy position p with below | same | above
  · simp [windowWrite, below]
  · simp [windowWrite, same]
  · simp [windowWrite, above, Nat.lt_asymm above, Nat.ne_of_gt above]

theorem sideAt_home (la : LineAddr) : sideAt la (homeLoc la) = .primary := sideAt_sideLoc .primary la

theorem sideAt_shadow (la : LineAddr) : sideAt la { homeLoc la with rank := (homeLoc la).rank + 1 } = .shadow :=
  sideAt_sideLoc .shadow la

/-- Settles O21: along the decode of the line, the phase of its row and the mirror states. -/
theorem writesGoWhereTheDataIs : Obligations.WritesGoWhereTheDataIs := by
  unfold Obligations.WritesGoWhereTheDataIs
  intro la p stepping s distinct home shadow window classed
  have windowed {ref : JobRef} (is : s.windowIs ref p stepping) (position : Nat) (source target : Loc) :
      windowWrite position (s.windowP ref) (s.windowStepping ref) source target = window position source target := by
    obtain ⟨pointer, steps⟩ := (s.windowIs_iff ref p stepping).1 is
    rw [← pointer, ← steps, windowWrite_eq]
  cases decode : decodeRow s.active (homeRow la) with
  | undecoded => exact ⟨by simp only [State.writeRoute, decode, home], fun l => by simp only [writeClass, decode]⟩
  | shadow i => exact ⟨by simp only [State.writeRoute, decode], fun l => by simp only [writeClass, decode]⟩
  | region i policy patrol =>
    cases policy with
    | plain => exact ⟨by simp only [State.writeRoute, decode, home], fun l => by simp only [writeClass, decode]⟩
    | pool => exact ⟨by simp only [State.writeRoute, decode], fun l => by simp only [writeClass, decode]⟩
    | closed => exact ⟨by simp only [State.writeRoute, decode], fun l => by simp only [writeClass, decode]⟩
    | spared =>
      refine ⟨fun l => by simp only [writeClass, decode], fun apart => ?_, fun n e used homed => ?_⟩
      · simp only [State.writeRoute, decode, State.sparedWrite, State.entryHomed_none apart, home]
      · have route := State.entryHomed_of distinct used homed
        cases phase : e.phase with
        | pending next | active =>
          simp only [State.writeRoute, decode, State.sparedWrite, route, phase, e.atCol_current homed, home]
        | copying next =>
          intro is
          simp only [State.writeRoute, decode, State.sparedWrite, route, phase, e.atCol_current homed, windowed is, homed]
          rfl
    | mirrored =>
      refine ⟨?_, ?_, fun m record => ?_⟩
      · simp only [writeClass, decode, home, sideAt_home]
      · simp only [writeClass, decode, shadow, home, sideAt_shadow]
      · have route : s.writeRoute la = s.mirroredWrite i la := by simp only [State.writeRoute, decode]
        rw [route]
        cases state : m.state with
        | duplex | simplexPrimary | simplexShadow =>
          simp only [State.mirroredWrite, Option.mem_def.1 record, state]
          rfl
        | rebuildShadow | rebuildPrimary =>
          intro is
          simp only [State.mirroredWrite, Option.mem_def.1 record, state, windowed is]
          rfl

/-! ### Notices (R68) -/

/-- A notice reaches every rank scheduler. -/
theorem State.notice_rank (s : State) (la : LineAddr) (there : Loc → Bool) (k : RankNo) :
    (s.notice la there).ranks[k] = (s.ranks[k]).noticed la there := by
  simp [State.notice]

theorem RankSched.noticed_bank (r : RankSched) (la : LineAddr) (there : Loc → Bool) (b : BankNo) :
    (r.noticed la there).banks[b] = (r.banks[b]).map (LineOp.noticedBusy la there) := by
  simp [RankSched.noticed]

/-- Settles O22: rank by rank, each operation by its kind. -/
theorem noticesMarkRestorativeWork : Obligations.NoticesMarkRestorativeWork := by
  unfold Obligations.NoticesMarkRestorativeWork
  intro la f l s supplies restores meant all reads allAt readsAt kept keptAt t u
  have supplying (o : LineOp) : o.kind.supplies = supplies o := by
    obtain ⟨kind, _, _, _, _⟩ := o
    cases kind <;> rfl
  have restoring (o : LineOp) : o.kind.restorative = restores o := by
    obtain ⟨kind, _, _, _, _⟩ := o
    cases kind <;> rfl
  have anywhere (o : LineOp) : o.hit la (fun _ => true) = decide (o.la = la) := by
    obtain ⟨kind, _, _, _, _⟩ := o
    cases kind with
    | patrolRead turn => cases turn <;> simp [LineOp.hit, LineOp.reach]
    | _ => simp [LineOp.hit, LineOp.reach]
  have atLoc (o : LineOp) : o.hit la (fun x => decide (x = l)) = (decide (o.la = la) && meant o) := by
    by_cases line : o.la = la
    · subst line
      obtain ⟨kind, _, _, _, _⟩ := o
      cases kind with
      | patrolRead turn => cases turn <;> simp [LineOp.hit, LineOp.reach, meant]
      | _ => simp [LineOp.hit, LineOp.reach, meant]
    · simp [LineOp.hit, line]
  have all_eq : LineOp.noticed la (fun _ => true) = all := by
    funext o
    simp only [LineOp.noticed, supplying, restoring, anywhere, all, Bool.and_eq_true, decide_eq_true_eq]
    exact if_congr (by tauto) rfl rfl
  have reads_eq : LineOp.noticedBusy la (fun _ => true) = reads := by
    funext o
    simp only [LineOp.noticedBusy, supplying, anywhere, reads, Bool.and_eq_true, decide_eq_true_eq]
    exact if_congr (by tauto) rfl rfl
  have allAt_eq : LineOp.noticed la (fun x => decide (x = l)) = allAt := by
    funext o
    simp only [LineOp.noticed, supplying, restoring, atLoc, allAt, Bool.and_eq_true, decide_eq_true_eq]
    exact if_congr (by tauto) rfl rfl
  have readsAt_eq : LineOp.noticedBusy la (fun x => decide (x = l)) = readsAt := by
    funext o
    simp only [LineOp.noticedBusy, supplying, atLoc, readsAt, Bool.and_eq_true, decide_eq_true_eq]
    exact if_congr (by tauto) rfl rfl
  have kept_eq : PatrolStep.noticed la (fun _ => true) = kept := by
    funext p
    simp [PatrolStep.noticed, kept]
  have keptAt_eq : PatrolStep.noticed la (fun x => decide (x = l)) = keptAt := by
    funext p
    simp only [PatrolStep.noticed, keptAt]
  have placed (k : RankNo) : u.ranks[k] =
      if k = l.rank then
        { (s.ranks[k]).noticed la fun x => decide (x = l) with
          placed := ((s.ranks[k]).noticed la fun x => decide (x = l)).placed
            ++ [placedOp (.entryWrite f (writeClass s.active la l)) la l] }
      else (s.ranks[k]).noticed la fun x => decide (x = l) := by
    simp only [u, State.placeEntryWrite, State.place, onRank_rank, State.notice_rank]
    by_cases here : k = l.rank
    · subst here
      simp only [if_true]
      rfl
    · simp only [if_neg here]
  refine ⟨?_, ?_, fun k => ⟨?_, fun b => ?_, ?_, fun b => ?_⟩⟩
  · rw [← kept_eq]
    rfl
  · rw [← keptAt_eq]
    rfl
  · rw [← all_eq]
    simp only [t, State.supersede, State.notice_rank]
    rfl
  · rw [← reads_eq]
    simp only [t, State.supersede, State.notice_rank, RankSched.noticed_bank]
  · rw [placed, ← allAt_eq]
    by_cases here : k = l.rank
    · rw [if_pos here, if_pos here]
      rfl
    · rw [if_neg here, if_neg here, List.append_nil]
      rfl
  · have same : (u.ranks[k]).banks = ((s.ranks[k]).noticed la fun x => decide (x = l)).banks := by
      rw [placed]
      split <;> rfl
    rw [same, RankSched.noticed_bank, readsAt_eq]

end Sys2Proof.Machine
end

section
/-! PROOFS. The completion of host, merge and failover reads: reports, answers, merges and repairs (R44, R45, R50, R65 to
R73). -/

namespace Sys2Proof.Machine

/-! ### What a report leaves of the read tracker (R43) -/

section
variable (s : State)

@[simp] theorem reads_releaseHeld (held : Option LineAddr) : (s.releaseHeld held).front.tracker = s.front.tracker := by
  cases held with
  | none => rfl
  | some la =>
    simp only [State.releaseHeld]
    split
    · simp only [State.passEntry]
      split
      · simp only [State.dropOldest, State.oweWrite_eq]
        rfl
      · rfl
      · rw [State.placeEntryWrites_eq]
        rfl
    · rfl

@[simp] theorem reads_restartJob (ref : JobRef) (source target : PhysRow) :
    (s.restartJob ref source target).front.tracker = s.front.tracker := by
  simp only [State.restartJob]
  split
  · rfl
  · exact reads_releaseHeld _ _

@[simp] theorem reads_closeJob (ref : JobRef) : (s.closeJob ref).front.tracker = s.front.tracker := by
  simp only [State.closeJob]
  split
  · rfl
  · split
    · rfl
    · exact reads_releaseHeld _ _

theorem reads_allocate {k : RankNo} {b : BankNo} {spare : RowNo} {t : State} (h : s.allocate k b = some (spare, t)) :
    t.front.tracker = s.front.tracker := by
  rw [s.allocate_eq, Option.map_eq_some_iff] at h
  obtain ⟨r, -, same⟩ := h
  rw [← (Prod.mk.inj same).2]

@[simp] theorem reads_acceptRetire (i : SlotIx) (r : PhysRow) (c : Cause) (a : Action) (spare : RowNo) :
    (s.acceptRetire i r c a spare).1.front.tracker = s.front.tracker := rfl

@[simp] theorem reads_refuseRetire (fromPort : Bool) (r : PhysRow) (why : RetireReason) :
    (s.refuseRetire fromPort r why).1.front.tracker = s.front.tracker := by
  simp only [State.refuseRetire]
  split <;> rfl

@[simp] theorem reads_retarget (fromPort : Bool) (r : PhysRow) (i : SlotIx) (e : SlotEntry) :
    (s.retarget fromPort r i e).1.front.tracker = s.front.tracker := by
  simp only [State.retarget]
  split
  · simp
  next taken => simpa [State.appendJob] using reads_allocate s taken

@[simp] theorem reads_replaceTarget (fromPort : Bool) (r : PhysRow) (i : SlotIx) (e : SlotEntry) :
    (s.replaceTarget fromPort r i e).1.front.tracker = s.front.tracker := by
  simp only [State.replaceTarget]
  split
  next taken => split <;> simpa using reads_allocate s taken
  · split <;> simp [State.removeJob]

@[simp] theorem reads_newRetirement (fromPort : Bool) (c : Cause) (r : PhysRow) :
    (s.newRetirement fromPort c r).1.front.tracker = s.front.tracker := by
  simp only [State.newRetirement]
  split
  · split
    · simp
    · split
      · simp
      next taken => simpa [State.appendJob] using reads_allocate s taken
  · simp

@[simp] theorem reads_retireInternal (c : Cause) (r : PhysRow) : (s.retireInternal c r).front.tracker = s.front.tracker := by
  simp only [State.retireInternal, State.retire]
  split
  · simp
  · split <;> simp
  · simp
  · simp

@[simp] theorem reads_correctedReport (r : PhysRow) (i : RegionIx) :
    (s.correctedReport r i).front.tracker = s.front.tracker := by
  rcases s.correctedReport_cases r i with same | same | same | ⟨t, same⟩ <;> rw [same]
  · simp [State.forgetRow]
  · simp

@[simp] theorem reads_reportRead (merge : Bool) (cls : RouteClass) (l : Loc) (o : ReadOutcome) :
    (s.reportRead merge cls l o).front.tracker = s.front.tracker := by
  simp only [State.reportRead]
  split
  · rfl
  · rfl
  · split <;> simp
  · split
    · simp
    · rw [State.sideReport_frame]
      rfl
    · rfl
    · rfl

end

/-! ### The answer of a host read (R8, R44) -/

theorem zeroLine_eq : zeroLine = Vector.replicate 64 0 := rfl

/-- A read that gives no data delivers 64 bytes of 0x00 (R6). -/
theorem classify_zero (x : StoredLine) (bad : (classify x).outcome = .uncorrectable ∨ (classify x).outcome = .poison) :
    (classify x).data = zeroLine := by
  have symbols (y : Fin 18 → BitVec 32)
      (bad : (classifySymbols y).outcome = .uncorrectable ∨ (classifySymbols y).outcome = .poison) :
      (classifySymbols y).data = zeroLine := by
    simp only [classifySymbols] at bad ⊢
    split_ifs at bad ⊢
    · rfl
    · simp at bad
    · split at bad
      · simp at bad
      · rfl
  simp only [classify] at bad ⊢
  split at bad
  · rfl
  · rfl
  · simp at bad
  · split_ifs at bad ⊢
    · simp at bad
    · rfl
    · simp at bad
  · split_ifs at bad ⊢
    · exact symbols _ bad
    · rfl
    · rfl
  · exact symbols _ bad

theorem sense_zero (s : State) (l : Loc) (d : Option StoredLine)
    (bad : (s.sense l d).2.outcome = .uncorrectable ∨ (s.sense l d).2.outcome = .poison) : (s.sense l d).2.data = zeroLine :=
  classify_zero _ bad

/-- A read in the tracker answered by what a rank read delivered (R8, R44). -/
theorem State.answer_host {t u : State} {l : Loc} {d : Option StoredLine} {tag : Tag} {x : LineAddr} {before after : List TrackedRead}
    (tracked : trackedAs u.front.tracker before after { tag := tag, la := x, state := .issued }) :
    u.answer false tag (t.sense l d).2 =
      match (t.sense l d).2.outcome with
      | .clean => u.withReadAnswer before after tag (t.sense l d).2.data .ok
      | .corrected => u.withReadAnswer before after tag (t.sense l d).2.data .corrected
      | .uncorrectable | .poison => u.withReadAnswer before after tag (Vector.replicate 64 0) .poisoned := by
  have answered := u.answerRead_of tracked (t.sense l d).2.data (t.sense l d).2.outcome.hostResult
  refine answered.trans ?_
  have zero := sense_zero t l d
  cases outcome : (t.sense l d).2.outcome with
  | clean | corrected => rfl
  | uncorrectable | poison =>
    simp only [zero (by simp [outcome]), zeroLine_eq]
    rfl

/-- Without a shadow that serves, no failover is called for (R65). -/
theorem State.failoverFor_none {u : State} {cls : RouteClass} {o : ReadOutcome}
    (unserved : ∀ i born, cls = .mirrored i .primary true born → o = .uncorrectable →
      ∀ m ∈ u.mirrors[i], m.state = .simplexPrimary ∨ m.state = .rebuildShadow) : u.failoverFor cls o = none := by
  simp only [State.failoverFor]
  split
  next i born =>
    split
    next m record =>
      rcases unserved i born rfl rfl m record with state | state <;> simp [state, MirrorState.shadowServes]
    next => rfl
  next => rfl

/-- Settles O23: the report, no failover, the answer. -/
theorem hostReadIsAnswered : Obligations.HostReadIsAnswered := by
  unfold Obligations.HostReadIsAnswered
  intro k b d tag cls la x l mark before after s carried tracked r e u unserved
  have reported : r.1.reportRead false cls l r.2.outcome = u := by
    simp only [State.reportRead, u, requestSource]
    cases r.2.outcome <;> cases cls <;> rfl
  have tracked' : trackedAs u.front.tracker before after { tag := tag, la := x, state := .issued } := by
    rw [← reported, reads_reportRead]
    simp only [r, State.sense_eq]
    exact tracked
  have done : r.1.requestReadDone false tag cls la l r.2 = u.answer false tag r.2 := by
    simp only [State.requestReadDone, reported, State.failoverFor_none unserved]
  refine (hostRead_completes carried).trans (congrArg Host.Outcome.next (done.trans ?_))
  refine (State.answer_host tracked').trans ?_
  cases r.2.outcome <;> rfl

/-! ### Failover (R65) -/

/-- Settles O25: the report, the shadow that serves after it, the failover read. -/
theorem failoverReadIsPlaced : Obligations.FailoverReadIsPlaced := by
  unfold Obligations.FailoverReadIsPlaced
  intro k b d tag merge i born la l mark m s cls carried r u shadow bad record serves
  have reported : r.1.reportRead merge cls l r.2.outcome = u := by
    simp only [State.reportRead, bad, u, requestSource, cls]
  have served : m.state.shadowServes = true := by
    rcases serves with state | state | state <;> simp [state, MirrorState.shadowServes]
  have called : u.failoverFor cls r.2.outcome = some (i, m) := by
    simp only [State.failoverFor, bad, cls, record, served, if_true]
  have done : r.1.requestReadDone merge tag cls la l r.2 = { u with
      ranks := u.ranksWith (placedOp (.failoverRead tag merge i m.born) la shadow)
      counters := { u.counters with failoverReads := countUp u.counters.failoverReads } } := by
    simp only [State.requestReadDone, reported, called, countUp_eq_satInc]
    rfl
  cases merge with
  | true => exact (mergeRead_completes carried).trans (congrArg Host.Outcome.next done)
  | false => exact (hostRead_completes carried).trans (congrArg Host.Outcome.next done)

/-! ### The completion of a merge (R49, R50) -/

theorem QueueEntry.mergingWith_iff (e : QueueEntry) (tag : Tag) : e.mergingWith tag = true ↔ e.tag = some tag := by
  obtain ⟨la, state⟩ := e
  cases state <;> simp [QueueEntry.mergingWith, QueueEntry.tag]

/-- The merge starts at the entry that holds the tag. -/
theorem mergeFrom_split {tag : Tag} {la : LineAddr} {m : BitVec 64} {d : LineData} {issued : Bool} (base : LineForm)
    {older : List QueueEntry} (newer : List QueueEntry) (others : ∀ x ∈ older, x.tag ≠ some tag) :
    mergeFrom tag base (older ++ { la := la, state := .merging tag m d issued } :: newer) =
      (older ++ { la := la, state := .queued (mergeForm base m d) } :: (mergeChain la (mergeForm base m d) newer).1,
        (tag, mergeForm base m d) :: (mergeChain la (mergeForm base m d) newer).2) := by
  induction older with
  | nil => simp only [List.nil_append, mergeFrom, QueueEntry.mergingWith, decide_true, mergeChain, if_true]
  | cons x older ih =>
    have other : ¬ x.mergingWith tag = true := fun h => others x (by simp) ((x.mergingWith_iff tag).1 h)
    simp only [List.cons_append, mergeFrom, if_neg other, ih fun y hy => others y (by simp [hy])]

/-- The entries of other lines are passed by. -/
theorem mergeChain_skip {la : LineAddr} (base : LineForm) {between : List QueueEntry} (rest : List QueueEntry)
    (others : ∀ x ∈ between, x.la ≠ la) :
    mergeChain la base (between ++ rest) = (between ++ (mergeChain la base rest).1, (mergeChain la base rest).2) := by
  induction between with
  | nil => rfl
  | cons x between ih =>
    simp only [List.cons_append, mergeChain, if_neg (others x (by simp)), ih fun y hy => others y (by simp [hy])]

/-- With no MERGING entry of the line, nothing merges. -/
theorem mergeChain_none {la : LineAddr} (base : LineForm) {rest : List QueueEntry}
    (settled : ∀ e ∈ rest, e.la = la → e.tag = none) : mergeChain la base rest = (rest, []) := by
  induction rest with
  | nil => rfl
  | cons e rest ih =>
    have after := ih fun x hx => settled x (by simp [hx])
    by_cases mine : e.la = la
    · have free := settled e (by simp) mine
      obtain ⟨line, state⟩ := e
      cases state with
      | merging => simp [QueueEntry.tag] at free
      | queued | held | issued => simp only [mergeChain, if_pos mine]
    · simp only [mergeChain, if_neg mine, after]

/-- A MERGING entry of the line takes its contents, and the entries behind it follow (R50). -/
theorem mergeChain_merging (la : LineAddr) (base : LineForm) (tag : Tag) (m : BitVec 64) (d : LineData) (issued : Bool)
    (rest : List QueueEntry) :
    mergeChain la base ({ la := la, state := .merging tag m d issued } :: rest) =
      ({ la := la, state := .queued (mergeForm base m d) } :: (mergeChain la (mergeForm base m d) rest).1,
        (tag, mergeForm base m d) :: (mergeChain la (mergeForm base m d) rest).2) := by
  simp only [mergeChain, if_true]

section
variable {u : State} {la : LineAddr} {tag : Tag} {m : BitVec 64} {data : LineData} {older newer : List QueueEntry}
  (base : LineForm) (others : ∀ e ∈ older, e.tag ≠ some tag)
include others

/-- A merge with no MERGING entry of its line behind it. -/
theorem State.completeMerge_one
    (queue : u.front.queue = older ++ { la := la, state := .merging tag m data true } :: newer)
    (settled : ∀ e ∈ newer, e.la = la → e.tag = none) :
    u.completeMerge tag base = u.withMerge older newer la tag (mergeForm base m data) := by
  simp only [State.completeMerge, queue, mergeFrom_split base newer others, mergeChain_none _ settled,
    List.foldl_cons, List.foldl_nil]
  exact State.answerMerge_eq (u.setQueue (older ++ { la := la, state := .queued (mergeForm base m data) } :: newer)) older newer
    la tag _ rfl

/-- A merge with one MERGING entry of its line behind it, which merges from it in its turn. -/
theorem State.completeMerge_two {between rest : List QueueEntry} {tag' : Tag} {m' : BitVec 64} {data' : LineData} {issued : Bool}
    (queue : u.front.queue = older ++ { la := la, state := .merging tag m data true } ::
      (between ++ { la := la, state := .merging tag' m' data' issued } :: rest))
    (apart : ∀ e ∈ between, e.la ≠ la) (settled : ∀ e ∈ rest, e.la = la → e.tag = none) :
    u.completeMerge tag base =
      (u.withMerge older (between ++ { la := la, state := .merging tag' m' data' issued } :: rest) la tag
        (mergeForm base m data)).withMerge (older ++ { la := la, state := .queued (mergeForm base m data) } :: between) rest la
          tag' (mergeForm (mergeForm base m data) m' data') := by
  simp only [State.completeMerge, queue, mergeFrom_split base _ others, mergeChain_skip _ _ apart,
    mergeChain_merging, mergeChain_none _ settled, List.foldl_cons, List.foldl_nil]
  rw [State.answerMerge_eq
    (u.setQueue (older ++ { la := la, state := .queued (mergeForm base m data) } ::
      (between ++ { la := la, state := .queued (mergeForm (mergeForm base m data) m' data') } :: rest)))
    older _ la tag _ rfl]
  refine (State.answerMerge_eq _ (older ++ { la := la, state := .queued (mergeForm base m data) } :: between) rest la tag' _
    ?_).trans rfl
  simp [State.withMerge]

end

/-- What a merge read delivers, merged with the entry's bytes (R9, R50). -/
theorem mergedFrom_eq (rd : Reading) (m : BitVec 64) (d : LineData) : mergedFrom rd m d = mergeForm rd.form m d := by
  simp only [mergedFrom, Reading.form, mergeForm_eq]
  cases rd.outcome <;> rfl

/-- Settles O24: the report, no failover, the chain of merges. -/
theorem mergeReadIsAnswered : Obligations.MergeReadIsAnswered := by
  unfold Obligations.MergeReadIsAnswered
  intro k b d tag cls la l mark m data older newer s carried r u f unserved oldest others
  have done : exec (.mergeReadComplete k b d) s = .next (u.completeMerge tag r.2.form) := by
    refine (mergeRead_completes carried).trans (congrArg Host.Outcome.next ?_)
    simp only [State.requestReadDone]
    rw [State.failoverFor_none unserved]
    rfl
  have merged : f = mergeForm r.2.form m data := mergedFrom_eq ..
  refine ⟨fun settled => ?_, fun between rest tag' m' data' issued behind apart settled _ => ?_⟩
  · rw [done, State.completeMerge_one _ others oldest.1 settled, merged]
  · intro f'
    have merged' : f' = mergeForm (mergeForm r.2.form m data) m' data' := by
      rw [← merged]
      exact (mergeForm_eq f m' data').symm
    subst behind
    rw [done, State.completeMerge_two _ others oldest.1 apart settled, merged', merged]

/-! ### The completion of a failover read (R65, R67, R73) -/

/-- The repair write formed for a side of a line (R67). -/
def repairOp (s : State) (la : LineAddr) (i : RegionIx) (side : Side) (data : LineData) (mark patrol : Bool) : LineOp :=
  { placedOp (.repairWrite data i side patrol (writeClass s.active la (sideLoc side la))) la (sideLoc side la) with
    superseded := mark }

/-- What forming a repair write leaves: the write placed, or the drop counted (R67). -/
theorem State.formRepair_state (s : State) (la : LineAddr) (i : RegionIx) (side : Side) (data : LineData) (mark patrol : Bool) :
    (s.formRepair la i side data mark patrol).1 =
      if (s.ranks[(sideLoc side la).rank]).repairs < 15 then
        { s with ranks := s.ranksWith (repairOp s la i side data mark patrol) }
      else { s with counters := { s.counters with repairsDropped := countUp s.counters.repairsDropped } } := by
  rw [State.formRepair_eq, countUp_eq_satInc]
  split <;> rfl

/-- Settles O26: the repair or the report by the outcome, then the answer for the kind of request. -/
theorem failoverReadAnswers : Obligations.FailoverReadAnswers := by
  unfold Obligations.FailoverReadAnswers
  intro k b d tag merge i born la l mark s carried r repair repaired u
  have active : r.1.active = s.active := by
    simp only [r, State.sense_eq]
    rfl
  have formed : (r.1.formRepair la i .primary r.2.data mark false).1 = repaired := by
    have op : repairOp r.1 la i .primary r.2.data mark false = repair := by
      rw [repairOp, active]
      rfl
    rw [State.formRepair_state, op]
    rfl
  have done : exec (.failoverReadComplete k b d) s = .next (u.answer merge tag r.2) := by
    refine (failoverRead_completes carried).trans (congrArg Host.Outcome.next ?_)
    simp only [State.failoverDone, u]
    cases r.2.outcome with
    | clean | corrected => exact congrArg (State.answer · merge tag r.2) formed
    | uncorrectable | poison => rfl
  have front : u.front = s.front := by
    have sensed : r.1.front = s.front := by
      simp only [r, State.sense_eq]
      rfl
    rw [← sensed]
    simp only [u, repaired]
    cases r.2.outcome with
    | clean | corrected =>
      simp only
      split <;> rfl
    | uncorrectable => exact (State.sideReport_frame ..).symm ▸ rfl
    | poison => rfl
  refine ⟨fun host x before after tracked => ?_, fun merges m data older newer oldest others => ?_⟩
  · subst host
    rw [← front] at tracked
    refine done.trans (congrArg Host.Outcome.next ((State.answer_host tracked).trans ?_))
    cases r.2.outcome <;> rfl
  · subst merges
    rw [← front] at oldest
    refine ⟨fun settled => ?_, fun between rest tag' m' data' issued behind apart settled _ => ?_⟩
    · rw [done, mergedFrom_eq]
      exact congrArg Host.Outcome.next (State.completeMerge_one _ others oldest.1 settled)
    · intro form'
      have merged : form' = mergeForm (mergeForm r.2.form m data) m' data' := by
        rw [← mergedFrom_eq]
        exact (mergeForm_eq _ m' data').symm
      subst behind
      rw [done, merged, mergedFrom_eq]
      exact congrArg Host.Outcome.next (State.completeMerge_two _ others oldest.1 apart settled)

end Sys2Proof.Machine
end

section
/-! PROOFS. Corrected reports (R138, R139) and the completion of patrol reads (R133 to R136). -/

namespace Sys2Proof.Machine

/-! ### The error tracker (R138, R139) -/

theorem lowestCount_le {t : List TrackerEntry} {e : TrackerEntry} (h : e ∈ t) : lowestCount t ≤ e.count := by
  induction t with
  | nil => simp at h
  | cons x t ih =>
    cases t with
    | nil =>
      obtain rfl : e = x := by simpa using h
      exact le_rfl
    | cons y t =>
      rcases List.mem_cons.1 h with rfl | later
      · exact min_le_left _ _
      · exact (min_le_right _ _).trans (ih later)

theorem le_lowestCount {t : List TrackerEntry} {n : Nat} (some_there : t ≠ []) (all : ∀ x ∈ t, n ≤ x.count) :
    n ≤ lowestCount t := by
  induction t with
  | nil => exact absurd rfl some_there
  | cons x t ih =>
    cases t with
    | nil => exact all x (by simp)
    | cons y t => exact le_min (all x (by simp)) (ih (by simp) fun z hz => all z (by simp [hz]))

/-- A full list gives up the oldest of its lowest counts (R138). -/
theorem trackerRoom_full {older newer : List TrackerEntry} {e : TrackerEntry} (full : (older ++ e :: newer).length = 32)
    (above : ∀ x ∈ older, e.count < x.count) (least : ∀ x ∈ newer, e.count ≤ x.count) :
    trackerRoom (older ++ e :: newer) = older ++ newer := by
  have lowest : lowestCount (older ++ e :: newer) = e.count := by
    refine le_antisymm (lowestCount_le (by simp)) (le_lowestCount (by simp) fun x hx => ?_)
    rcases List.mem_append.1 hx with before | here
    · exact (above x before).le
    · rcases List.mem_cons.1 here with rfl | after
      · exact le_rfl
      · exact least x after
  rw [trackerRoom, if_neg (by rw [full, Config.trackerSize]; omega), lowest]
  exact eraseP_split _ _ _ _ (fun y hy => by simpa using (above y hy).ne') (by simp)

/-- Settles O37: the row in the tracker, or not, with room or without. -/
theorem correctedReportIsCounted : Obligations.CorrectedReportIsCounted := by
  unfold Obligations.CorrectedReportIsCounted
  intro row i s sound region without
  refine ⟨fun other => ?_, fun valid spared => ⟨fun older newer e tracker here => ?_, fun absent => ?_⟩⟩
  · rw [State.correctedReport, if_neg other]
  · intro n
    have apart : ∀ x ∈ older, x.row ≠ row := by
      intro x before same
      have distinct := sound.2.1
      rw [tracker, List.map_append, List.nodup_append] at distinct
      exact distinct.2.2 x.row (List.mem_map_of_mem before) e.row (by simp) (same.trans here.symm)
    have found : s.tracker.find? (fun x => decide (x.row = row)) = some e := by
      rw [tracker]
      exact find_split _ _ _ _ (fun y hy => by simpa using apart y hy) (by simpa using here)
    rw [State.correctedReport, if_pos ⟨valid, spared⟩]
    simp only [found]
    rw [tracker, replaceFirst_split _ _ _ _ _ (fun y hy => by simpa using apart y hy) (by simpa using here)]
    rfl
  · have missing : s.tracker.find? (fun x => decide (x.row = row)) = none := by
      rw [List.find?_eq_none]
      simpa using absent
    have reported : s.correctedReport row i =
        if s.thresholdAt i = 1 then s.retireInternal .threshold row
        else { s with tracker := trackerRoom s.tracker ++ [{ row := row, region := i, count := 1 }] } := by
      rw [State.correctedReport, if_pos ⟨valid, spared⟩]
      simp only [missing]
    have one : s.thresholdAt i = 1 ↔ region.threshold = 1 := by
      simp only [State.thresholdAt, ← BitVec.toNat_inj]
      rfl
    refine ⟨fun first => ?_, fun more room => ?_, fun more older newer e tracker full above least => ?_⟩
    · rw [reported, if_pos (one.2 first)]
    · rw [reported, if_neg (mt one.1 more), trackerRoom, if_pos room]
    · rw [tracker] at full
      rw [reported, if_neg (mt one.1 more), tracker, trackerRoom_full full above least]

/-! ### The patrol step beside a report

A retirement or a side count reaches the patrol step by notices alone, which set marks: a change of the step that leaves
the marks to the notices may be made before the report or after it. -/

/-- The patrol step replaced by what `h` gives for it. -/
def State.restep (s : State) (h : Option PatrolStep → Option PatrolStep) : State :=
  { s with patrol := { s.patrol with step := h s.patrol.step } }

/-- The change gives the same before a notice and after it. -/
def Unnoticed (h : Option PatrolStep → Option PatrolStep) : Prop :=
  ∀ (la : LineAddr) (there : Loc → Bool) (p : Option PatrolStep),
    h (p.map (PatrolStep.noticed la there)) = (h p).map (PatrolStep.noticed la there)

theorem unnoticed_patrolLess : Unnoticed patrolLess := by
  intro la there p
  cases p with
  | none => rfl
  | some p =>
    have same : (p.noticed la there).outstanding = p.outstanding := by
      simp only [PatrolStep.noticed]
      split <;> rfl
    have fewer : { p.noticed la there with outstanding := p.outstanding - 1 } =
        PatrolStep.noticed la there { p with outstanding := p.outstanding - 1 } := by
      simp only [PatrolStep.noticed]
      split <;> rfl
    simp only [patrolLess, Option.map_some, same, fewer]
    split <;> rfl

section
variable (s : State) {h : Option PatrolStep → Option PatrolStep} (unnoticed : Unnoticed h)
include unnoticed

theorem placeEntryWrite_restep (la : LineAddr) (f : LineForm) (l : Loc) :
    State.placeEntryWrite la f (s.restep h) l = (State.placeEntryWrite la f s l).restep h := by
  have noticed (there : Loc → Bool) : (s.restep h).notice la there = (s.notice la there).restep h := by
    simp only [State.notice, State.restep, (unnoticed la there s.patrol.step).symm]
  simp only [State.placeEntryWrite, noticed]
  rfl

theorem placeEntryWrites_restep (la : LineAddr) (f : LineForm) (locs : List Loc) :
    locs.foldl (State.placeEntryWrite la f) (s.restep h) = (locs.foldl (State.placeEntryWrite la f) s).restep h := by
  induction locs generalizing s with
  | nil => rfl
  | cons l locs ih => rw [List.foldl_cons, List.foldl_cons, placeEntryWrite_restep _ unnoticed, ih]

theorem passEntry_restep (la : LineAddr) (f : LineForm) : (s.restep h).passEntry la f = (s.passEntry la f).restep h := by
  have route : (s.restep h).writeRoute la = s.writeRoute la := rfl
  simp only [State.passEntry, route]
  cases s.writeRoute la with
  | stale =>
    simp only [State.dropOldest, State.oweWrite_eq]
    rfl
  | hold => rfl
  | places locs =>
    simp only [placeEntryWrites_restep _ unnoticed]
    rfl

theorem releaseHeld_restep (held : Option LineAddr) : (s.restep h).releaseHeld held = (s.releaseHeld held).restep h := by
  cases held with
  | none => rfl
  | some la =>
    have oldest : (s.restep h).oldestEntry la = s.oldestEntry la := rfl
    simp only [State.releaseHeld, oldest]
    split
    · exact passEntry_restep s unnoticed ..
    · rfl

theorem restartJob_restep (ref : JobRef) (source target : PhysRow) :
    (s.restep h).restartJob ref source target = (s.restartJob ref source target).restep h := by
  have job : (s.restep h).jobFor ref = s.jobFor ref := rfl
  simp only [State.restartJob, job]
  split
  · rfl
  · exact releaseHeld_restep { s with engine := _ } unnoticed _

theorem closeJob_restep (ref : JobRef) : (s.restep h).closeJob ref = (s.closeJob ref).restep h := by
  have job : (s.restep h).jobFor ref = s.jobFor ref := rfl
  simp only [State.closeJob, job]
  split
  · rfl
  · split
    · rfl
    · exact releaseHeld_restep { s with engine := _ } unnoticed _

omit unnoticed in
theorem refuseRetire_restep (fromPort : Bool) (r : PhysRow) (why : RetireReason) :
    ((s.restep h).refuseRetire fromPort r why).1 = (s.refuseRetire fromPort r why).1.restep h := by
  simp only [State.refuseRetire]
  split <;> rfl

omit unnoticed in
theorem allocate_restep (k : RankNo) (b : BankNo) :
    (s.restep h).allocate k b = (s.allocate k b).map fun x => (x.1, x.2.restep h) := by
  rw [State.allocate_eq, State.allocate_eq, Option.map_map]
  rfl

omit unnoticed in
theorem retarget_restep (fromPort : Bool) (r : PhysRow) (i : SlotIx) (e : SlotEntry) :
    ((s.restep h).retarget fromPort r i e).1 = (s.retarget fromPort r i e).1.restep h := by
  simp only [State.retarget, allocate_restep]
  cases s.allocate e.home.rank e.home.bank with
  | none => exact refuseRetire_restep ..
  | some x => rfl

theorem replaceTarget_restep (fromPort : Bool) (r : PhysRow) (i : SlotIx) (e : SlotEntry) :
    ((s.restep h).replaceTarget fromPort r i e).1 = (s.replaceTarget fromPort r i e).1.restep h := by
  simp only [State.replaceTarget, allocate_restep]
  cases s.allocate e.home.rank e.home.bank with
  | none =>
    cases e.phase with
    | copying n =>
      simp only [Option.map_none]
      rw [← refuseRetire_restep, ← closeJob_restep _ unnoticed]
      rfl
    | pending n => exact refuseRetire_restep ((s.setSlot i (abandonedSlot e)).removeJob (.rowMove i)) ..
    | active => exact refuseRetire_restep ((s.setSlot i (abandonedSlot e)).removeJob (.rowMove i)) ..
  | some x =>
    cases e.phase with
    | copying n =>
      have restart := restartJob_restep
        (x.2.setSlot i (some { e with phase := .copying x.1, cause := replacedCause e, lost := 0 })) unnoticed (.rowMove i)
        e.currentRow { e.home with row := x.1 }
      exact congrArg (fun t => (State.acceptRetire t i r (replacedCause e) .replace x.1).1) restart
    | pending n | active => rfl

omit unnoticed in
theorem newRetirement_restep (fromPort : Bool) (c : Cause) (r : PhysRow) :
    ((s.restep h).newRetirement fromPort c r).1 = (s.newRetirement fromPort c r).1.restep h := by
  have spared : (s.restep h).rowSpared r = s.rowSpared r := rfl
  have free : (s.restep h).freeSlot = s.freeSlot := rfl
  simp only [State.newRetirement, spared, free, allocate_restep]
  by_cases is : s.rowSpared r = true
  · rw [if_pos is, if_pos is]
    cases s.freeSlot with
    | none => exact refuseRetire_restep ..
    | some i =>
      cases s.allocate r.rank r.bank with
      | none => exact refuseRetire_restep ..
      | some x => rfl
  · rw [if_neg is, if_neg is]
    exact refuseRetire_restep ..

/-- A retirement beside a change of the patrol step. -/
theorem retireInternal_restep (c : Cause) (r : PhysRow) :
    (s.restep h).retireInternal c r = (s.retireInternal c r).restep h := by
  have part : (s.restep h).partOf r = s.partOf r := rfl
  simp only [State.retireInternal, State.retire, part]
  cases s.partOf r with
  | movedHome => exact refuseRetire_restep ..
  | current i e =>
    cases phase : e.phase with
    | active =>
      simp only [phase]
      exact retarget_restep ..
    | pending n | copying n => simp only [phase]
  | next i e => exact replaceTarget_restep s unnoticed ..
  | none => exact newRetirement_restep ..

/-- A corrected report beside a change of the patrol step. -/
theorem correctedReport_restep (r : PhysRow) (i : RegionIx) :
    (s.restep h).correctedReport r i = (s.correctedReport r i).restep h := by
  have tracker : (s.restep h).tracker = s.tracker := rfl
  simp only [State.correctedReport, tracker]
  by_cases spared : (s.active[i]).valid ∧ (s.active[i]).policy = .spared
  · rw [if_pos spared]
    refine (if_pos spared).trans ?_
    split
    next e _ =>
      by_cases last : min 255 (e.count + 1) = s.thresholdAt e.region
      · rw [if_pos last]
        exact (if_pos last).trans (retireInternal_restep (s.forgetRow r) unnoticed ..)
      · rw [if_neg last]
        exact if_neg last
    next =>
      by_cases first : s.thresholdAt i = 1
      · rw [if_pos first]
        exact (if_pos first).trans (retireInternal_restep s unnoticed ..)
      · rw [if_neg first]
        exact if_neg first
  · rw [if_neg spared]
    exact if_neg spared

omit unnoticed in
/-- A side-count report beside a change of the patrol step. -/
theorem sideReport_restep (i : RegionIx) (x : Side) (born : Nat) :
    (s.restep h).sideReport i x born = (s.sideReport i x born).restep h := by
  have mirror : (s.restep h).mirrors[i] = s.mirrors[i] := rfl
  simp only [State.sideReport, mirror]
  cases s.mirrors[i] with
  | none => rfl
  | some m =>
    by_cases other : m.born ≠ born
    · simp only [if_pos other]
    · simp only [if_neg other]
      split <;> rfl

end

end Sys2Proof.Machine
end

section
/-! PROOFS. The completion of patrol reads: scrubs, reports, the second read of a pair and the repair of one side (R133 to
R136). -/

namespace Sys2Proof.Machine

/-! ### The account of the patrol step (R133) -/

/-- One operation of several done, or the last. -/
theorem patrolLess_some {p : PatrolStep} {n : Nat} (work : p.outstanding = n + 1) :
    patrolLess (some p) = if n = 0 then none else some { p with outstanding := n } := by
  simp only [patrolLess, work]
  by_cases last : n = 0
  · rw [if_pos last, if_pos (by omega)]
  · rw [if_neg last, if_neg (by omega), Nat.add_sub_cancel]

/-! ### Scrub writes (R136) -/

/-- The scrub write formed for a location. -/
def scrubOp (s : State) (la : LineAddr) (l : Loc) (data : LineData) (mark : Bool) : LineOp :=
  { placedOp (.scrubWrite data (writeClass s.active la l)) la l with superseded := mark }

/-- The scrub write of a location that waits with the patrol step. -/
def scrubWait (s : State) (la : LineAddr) (l : Loc) (data : LineData) (mark : Bool) : WaitingScrub :=
  { loc := l, data := data, cls := writeClass s.active la l, superseded := mark }

theorem scrubPlaced_iff (s : State) : s.scrubPlaced = false ↔ ∀ n : RankNo, (s.ranks[n]).scrubs = 0 := by
  refine ⟨noScrubs_of_scrubPlaced, fun none_placed => ?_⟩
  simp only [State.scrubPlaced, List.any_eq_false, Bool.not_eq_true]
  intro r there o placed
  obtain ⟨n, below, rfl⟩ := List.getElem_of_mem there
  have size : n < 4 := by simpa using below
  have none_here := none_placed ⟨n, size⟩
  rw [RankSched.scrubs, List.length_eq_zero_iff, List.filter_eq_nil_iff] at none_here
  simpa using none_here o (by simpa using placed)

/-- A scrub write formed is one more operation of the step, and is placed, or waits where another is placed (R136). -/
theorem State.formScrub_eq {s : State} {p : PatrolStep} (step : s.patrol.step = some p) (la : LineAddr) (l : Loc)
    (data : LineData) (mark : Bool) :
    s.formScrub la l data mark =
      if s.scrubPlaced = false then
        { s with
          ranks := s.ranksWith (scrubOp s la l data mark)
          patrol := { s.patrol with step := some { p with outstanding := p.outstanding + 1 } } }
      else { s with patrol := { s.patrol with step := some { p with
        outstanding := p.outstanding + 1
        waiting := some (scrubWait s la l data mark) } } } := by
  have same : s.patrolMore.scrubPlaced = s.scrubPlaced := rfl
  simp only [State.formScrub, same]
  by_cases free : s.scrubPlaced = false
  · rw [if_pos free, if_neg (by simp [free])]
    simp only [State.patrolMore, step]
    rfl
  · rw [if_neg free, if_pos (by simpa using free)]
    simp only [State.patrolMore, State.onPatrolStep, step]
    rfl

/-! ### What the completion of a read leaves (R7, R142) -/

theorem freeBank_rank_placed (s : State) (k n : RankNo) (b : BankNo) :
    ((s.freeBank k b).ranks[n]).placed = (s.ranks[n]).placed := by
  rw [State.freeBank, onRank_rank]
  split
  next same => rw [same]
  next => rfl

section
variable (s : State) (k : RankNo) (b : BankNo) (l : Loc) (d : Option StoredLine)

theorem sensed_patrol : ((s.freeBank k b).sense l d).1.patrol = s.patrol := by rw [State.sense_eq]; rfl

theorem sensed_active : ((s.freeBank k b).sense l d).1.active = s.active := by rw [State.sense_eq]; rfl

theorem sensed_scrubs (n : RankNo) : (((s.freeBank k b).sense l d).1.ranks[n]).scrubs = (s.ranks[n]).scrubs := by
  rw [State.sense_eq]
  exact congrArg (fun placed => (placed.filter fun o => o.kind.isScrub).length) (freeBank_rank_placed s k n b)

theorem sensed_scrubPlaced : ((s.freeBank k b).sense l d).1.scrubPlaced = false ↔ ∀ n : RankNo, (s.ranks[n]).scrubs = 0 := by
  simp only [scrubPlaced_iff, sensed_scrubs]

end

/-! ### The single read (R134) -/

/-- A single read's outcome, and one operation of the step done (R133, R134). -/
theorem State.patrolReadDone_single {s : State} {p : PatrolStep} (step : s.patrol.step = some p) (la : LineAddr) (l : Loc)
    (mark : Bool) (rd : Reading) :
    s.patrolReadDone .single la l mark rd = (s.patrolSingle p la l mark rd).patrolDone := by
  simp only [State.patrolReadDone, step]

/-- Settles O35: by the outcome and the treatment of the position. -/
theorem patrolReadIsHandled : Obligations.PatrolReadIsHandled := by
  unfold Obligations.PatrolReadIsHandled
  intro k b d la l mark p s carried step one r scrub wait scrubbed lost ended
  have patrol : r.1.patrol = s.patrol := sensed_patrol ..
  have step' : r.1.patrol.step = some p := by rw [patrol, step]
  have op : scrubOp r.1 la l r.2.data mark = scrub := by rw [scrubOp, sensed_active]
  have waits : scrubWait r.1 la l r.2.data mark = wait := by rw [scrubWait, sensed_active]
  have last : patrolLess (some p) = none := by rw [patrolLess_some one, if_pos rfl]
  have ends : r.1.patrolDone = ended := by
    rw [State.patrolDone_eq, step', last, patrol]
  have scrubs : (r.1.formScrub la l r.2.data mark).patrolDone = scrubbed := by
    rw [State.formScrub_eq step', op, waits]
    have less : patrolLess (some { p with outstanding := p.outstanding + 1 }) = some p := by
      rw [patrolLess_some rfl, if_neg (by omega)]
    have lessWaiting : patrolLess (some { p with outstanding := p.outstanding + 1, waiting := some wait }) =
        some { p with waiting := some wait } := by
      rw [patrolLess_some rfl, if_neg (by omega)]
    by_cases room : r.1.scrubPlaced = false
    · rw [if_pos room, State.patrolDone_eq]
      simp only [less]
      refine Eq.trans ?_ (if_pos ((sensed_scrubPlaced s k b l d).1 room)).symm
      rw [← step']
    · rw [if_neg room, State.patrolDone_eq]
      simp only [lessWaiting]
      refine Eq.trans ?_ (if_neg (mt (sensed_scrubPlaced s k b l d).2 room)).symm
      rw [patrol]
  have loses : (r.1.patrolEvent l).patrolDone = lost := by
    rw [State.patrolDone_eq]
    simp only [State.patrolEvent, State.offer_patrol, patrol, step, last]
    rfl
  refine (patrolRead_completes carried).trans (congrArg Host.Outcome.next ((State.patrolReadDone_single step' ..).trans ?_))
  simp only [State.patrolSingle]
  cases treat : p.treat with
  | plain =>
    cases outcome : r.2.outcome with
    | corrected => exact scrubs
    | uncorrectable => exact loses
    | clean | poison => exact ends
  | spared =>
    cases outcome : r.2.outcome with
    | corrected =>
      exact (correctedReport_restep _ unnoticed_patrolLess ..).symm.trans
        (congrArg (fun t : State => t.correctedReport l.physRow p.region) scrubs)
    | uncorrectable =>
      exact (retireInternal_restep _ unnoticed_patrolLess ..).symm.trans
        (congrArg (fun t : State => t.retireInternal .uncorrectable l.physRow) loses)
    | clean | poison => exact ends
  | simplex side born =>
    simp only [State.patrolSide]
    cases outcome : r.2.outcome with
    | corrected => exact scrubs
    | uncorrectable =>
      exact (sideReport_restep (r.1.patrolEvent l) (h := patrolLess) ..).symm.trans
        (congrArg (fun t : State => t.sideReport p.region side born) loses)
    | clean | poison => exact ends
  | duplex born => cases outcome : r.2.outcome <;> exact ends

/-! ### The reads of a DUPLEX pair (R135) -/

/-- What the completion of a read of one side does beside its account with the step: the scrub write placed or left to wait,
the report against the side (R134, R135). -/
def State.sideHandled (s : State) (i : RegionIx) (side : Side) (born : Nat) (la : LineAddr) (l : Loc) (mark : Bool)
    (rd : Reading) : State :=
  match rd.outcome with
  | .corrected => if s.scrubPlaced = false then { s with ranks := s.ranksWith (scrubOp s la l rd.data mark) } else s
  | .uncorrectable => (s.patrolEvent l).sideReport i side born
  | .clean => s
  | .poison => s

theorem State.sideHandled_active (s : State) (i : RegionIx) (side : Side) (born : Nat) (la : LineAddr) (l : Loc) (mark : Bool)
    (rd : Reading) : (s.sideHandled i side born la l mark rd).active = s.active := by
  simp only [State.sideHandled]
  split
  · split <;> rfl
  · rw [State.sideReport_frame]
    rfl
  · rfl
  · rfl

/-- The patrol step after the completion of a read of one side: one operation more for a scrub write, which it keeps where it
has to wait (R136). -/
def PatrolStep.sideRead (p : PatrolStep) (s : State) (la : LineAddr) (l : Loc) (mark : Bool) (rd : Reading) : PatrolStep :=
  { p with
    outstanding := p.outstanding + if rd.outcome = .corrected then 1 else 0
    waiting := if rd.outcome = .corrected ∧ ¬ s.scrubPlaced = false then some (scrubWait s la l rd.data mark) else p.waiting }

theorem State.patrolSide_eq {s : State} {p : PatrolStep} (step : s.patrol.step = some p) (i : RegionIx) (side : Side) (born : Nat)
    (la : LineAddr) (l : Loc) (mark : Bool) (rd : Reading) :
    s.patrolSide i side born la l mark rd =
      { s.sideHandled i side born la l mark rd with
        patrol := { s.patrol with step := some (p.sideRead s la l mark rd) } } := by
  have unread (quiet : rd.outcome ≠ .corrected) : p.sideRead s la l mark rd = p := by
    simp [PatrolStep.sideRead, quiet]
  cases outcome : rd.outcome with
  | corrected =>
    simp only [State.patrolSide, State.sideHandled, outcome, State.formScrub_eq step, PatrolStep.sideRead, if_true, true_and]
    by_cases room : s.scrubPlaced = false
    · simp [room]
    · simp [room]
  | uncorrectable =>
    rw [unread (by simp [outcome]), ← step]
    simp only [State.patrolSide, State.sideHandled, outcome]
    rw [State.sideReport_frame]
    rfl
  | clean | poison =>
    rw [unread (by simp [outcome]), ← step]
    simp only [State.patrolSide, State.sideHandled, outcome]

/-- A completed first read of a pair (R133, R135). -/
theorem State.patrolReadDone_primary {s : State} {p : PatrolStep} {born : Nat} (step : s.patrol.step = some p)
    (treat : p.treat = .duplex born) (la : LineAddr) (l : Loc) (mark : Bool) (rd : Reading) :
    s.patrolReadDone .primary la l mark rd = (s.pairFirst p born la l mark rd).patrolDone := by
  simp only [State.patrolReadDone, step, treat]

/-- A completed second read of a pair (R135). -/
theorem State.patrolReadDone_shadow {s : State} {p : PatrolStep} {born : Nat} (step : s.patrol.step = some p)
    (treat : p.treat = .duplex born) (la : LineAddr) (l : Loc) (mark : Bool) (rd : Reading) :
    s.patrolReadDone .shadow la l mark rd = (s.pairSecond p born la l mark rd).patrolDone := by
  simp only [State.patrolReadDone, step, treat]

/-- The first read of a pair leaves the shadow read placed and its outcome kept. -/
theorem State.pairFirst_done {s : State} {p : PatrolStep} (step : s.patrol.step = some p) (born : Nat)
    (la : LineAddr) (l : Loc) (mark : Bool) (rd : Reading) (work : p.outstanding ≠ 0) :
    (s.pairFirst p born la l mark rd).patrolDone =
      { s.sideHandled p.region .primary born la l mark rd with
        ranks := (s.sideHandled p.region .primary born la l mark rd).ranksWith
          (placedOp (.patrolRead .shadow) la (sideLoc .shadow la))
        patrol := { s.patrol with step := some { p.sideRead s la l mark rd with
          first := some { reading := rd, superseded := mark } } } } := by
  have less : patrolLess (some { p.sideRead s la l mark rd with
      first := some { reading := rd, superseded := mark }
      outstanding := (p.sideRead s la l mark rd).outstanding + 1 }) =
      some { p.sideRead s la l mark rd with first := some { reading := rd, superseded := mark } } := by
    rw [patrolLess_some rfl, if_neg]
    simp only [PatrolStep.sideRead]
    omega
  rw [State.pairFirst, State.patrolSide_eq step, State.patrolDone_eq]
  simp only [State.onPatrolStep, State.patrolMore, State.place_patrol, Option.map_some, less]
  rfl

theorem State.stillDuplex_iff (s : State) (i : RegionIx) (born : Nat) :
    s.stillDuplex i born = true ↔ ∃ m ∈ s.mirrors[i], m.state = .duplex ∧ m.born = born := by
  simp only [State.stillDuplex]
  cases s.mirrors[i] with
  | none => simp
  | some m => simp

theorem ReadOutcome.good_iff (o : ReadOutcome) : o.good = true ↔ o = .clean ∨ o = .corrected := by
  cases o <;> simp [ReadOutcome.good]

/-- A repair write of the patrol step formed: placed and counted among its work, or dropped (R67, R135). -/
theorem State.patrolRepair_eq {s : State} {q : PatrolStep} (step : s.patrol.step = some q) (la : LineAddr) (i : RegionIx)
    (side : Side) (data : LineData) (mark : Bool) :
    s.patrolRepair la i side data mark =
      if (s.ranks[(sideLoc side la).rank]).repairs < 15 then
        { s with
          ranks := s.ranksWith (repairOp s la i side data mark true)
          patrol := { s.patrol with step := some { q with outstanding := q.outstanding + 1 } } }
      else { s with counters := { s.counters with repairsDropped := countUp s.counters.repairsDropped } } := by
  have flag : (s.formRepair la i side data mark true).2 = decide ((s.ranks[(sideLoc side la).rank]).repairs < 15) := by
    rw [State.formRepair_eq]
    by_cases room : (s.ranks[(sideLoc side la).rank]).repairs < 15
    · rw [if_pos room, decide_eq_true room]
    · rw [if_neg room, decide_eq_false room]
  rw [State.patrolRepair, flag, State.formRepair_state]
  by_cases room : (s.ranks[(sideLoc side la).rank]).repairs < 15
  · rw [if_pos room, if_pos room, if_pos (by simpa using room)]
    simp only [State.patrolMore, step]
    rfl
  · rw [if_neg room, if_neg room, if_neg (by simpa using room)]

/-- The three outcomes of a pair: the primary lost, the shadow lost, or no repair (R135). -/
theorem State.pairRepair_eq {s : State} {p : PatrolStep} {f : FirstRead} (first : p.first = some f) (born : Nat) (mark : Bool)
    (rd : Reading) :
    s.pairRepair p born mark rd =
      if s.stillDuplex p.region born then
        if f.reading.outcome = .uncorrectable ∧ rd.outcome.good = true then
          s.patrolRepair p.la p.region .primary rd.data mark
        else if rd.outcome = .uncorrectable ∧ f.reading.outcome.good = true then
          s.patrolRepair p.la p.region .shadow f.reading.data f.superseded
        else s
      else s := by
  simp only [State.pairRepair, first]

/-- Settles O36: the account of one side, then for the second read the repair by the outcomes of both. -/
theorem patrolPairIsRepaired : Obligations.PatrolPairIsRepaired := by
  unfold Obligations.PatrolPairIsRepaired
  intro k b d la l mark p born n s step line treat work r shadow scrub room wait scrubs reported
  have patrol : r.1.patrol = s.patrol := sensed_patrol ..
  have step' : r.1.patrol.step = some p := by rw [patrol, step]
  have op : scrubOp r.1 la l r.2.data mark = scrub := by rw [scrubOp, sensed_active]
  have placed : r.1.scrubPlaced = false ↔ room := sensed_scrubPlaced s k b l d
  have handled (side : Side) : r.1.sideHandled p.region side born la l mark r.2 = reported side := by
    simp only [State.sideHandled, reported, op]
    cases outcome : r.2.outcome with
    | corrected => exact if_congr placed rfl rfl
    | uncorrectable | clean | poison => rfl
  have account : p.sideRead r.1 la l mark r.2 = { p with outstanding := n + 1 + scrubs, waiting := wait } := by
    have waits : (if r.2.outcome = .corrected ∧ ¬ r.1.scrubPlaced = false then some (scrubWait r.1 la l r.2.data mark)
        else p.waiting) = wait := by
      rw [scrubWait, sensed_active]
      exact if_congr (and_congr Iff.rfl (not_congr placed)) rfl rfl
    simp only [PatrolStep.sideRead, waits, work, scrubs]
  refine ⟨fun carried => ?_, fun carried f first => ?_⟩
  · refine (patrolRead_completes carried).trans (congrArg Host.Outcome.next ?_)
    refine (State.patrolReadDone_primary step' treat ..).trans ?_
    refine (State.pairFirst_done step' _ _ _ _ _ (by omega)).trans ?_
    rw [handled, account, patrol]
    rfl
  · intro t good duplex ends repair primaryLost shadowLost
    have done : exec (.patrolReadComplete k b d) s = .next (r.1.pairSecond p born la l mark r.2).patrolDone :=
      (patrolRead_completes carried).trans (congrArg Host.Outcome.next (State.patrolReadDone_shadow step' treat ..))
    have ended {u : State} {repairs : Nat}
        (second : r.1.pairSecond p born la l mark r.2 = { u with patrol := { s.patrol with
          step := some { p with outstanding := n + 1 + scrubs + repairs, waiting := wait } } }) : ends u repairs := by
      refine done.trans (congrArg Host.Outcome.next ?_)
      rw [second, State.patrolDone_eq]
      have less : patrolLess (some { p with outstanding := n + 1 + scrubs + repairs, waiting := wait }) =
          if n + scrubs + repairs = 0 then none
          else some { p with outstanding := n + scrubs + repairs, waiting := wait } :=
        patrolLess_some (by simp only; omega)
      simp only [less]
    let x : State := { t with patrol := { s.patrol with step := some { p with outstanding := n + 1 + scrubs, waiting := wait } } }
    have side : r.1.pairSecond p born la l mark r.2 = x.pairRepair p born mark r.2 := by
      rw [State.pairSecond, State.patrolSide_eq step', handled, account, patrol]
    have still : x.stillDuplex p.region born = true ↔ duplex := x.stillDuplex_iff p.region born
    have active : x.active = s.active := by
      change (reported .shadow).active = s.active
      rw [← handled, State.sideHandled_active, sensed_active]
    have repairs (y : Side) (data : LineData) (mark' : Bool)
        (second : r.1.pairSecond p born la l mark r.2 = x.patrolRepair p.la p.region y data mark') :
        repair y (sideLoc y la) data mark' := by
      have op : repairOp x la p.region y data mark' true =
          { placedOp (.repairWrite data p.region y true (writeClass s.active la (sideLoc y la))) la (sideLoc y la) with
            superseded := mark' } := by
        rw [repairOp, active]
      rw [line, State.patrolRepair_eq (s := x) rfl, op] at second
      by_cases room : (t.ranks[(sideLoc y la).rank]).repairs < 15
      · refine (if_pos room).mpr (ended (second.trans ((if_pos room).trans rfl)))
      · refine (if_neg room).mpr (ended (second.trans ((if_neg room).trans rfl)))
    rw [State.pairRepair_eq first] at side
    simp only [ReadOutcome.good_iff] at side
    refine ⟨fun lost => ?_, fun lost => ?_, fun kept kept' => ?_⟩
    · obtain ⟨is, bad, fine⟩ := lost
      exact repairs .primary r.2.data mark (side.trans ((if_pos (still.2 is)).trans (if_pos ⟨bad, fine⟩)))
    · obtain ⟨is, bad, fine⟩ := lost
      have other : ¬ (f.reading.outcome = .uncorrectable ∧ good r.2.outcome) := by
        rintro ⟨-, given⟩
        rcases given with h | h <;> simp [bad] at h
      exact repairs .shadow f.reading.data f.superseded
        (side.trans ((if_pos (still.2 is)).trans ((if_neg other).trans (if_pos ⟨bad, fine⟩))))
    · refine ended (side.trans ?_)
      by_cases is : duplex
      · exact (if_pos (still.2 is)).trans ((if_neg fun h => kept ⟨is, h⟩).trans (if_neg fun h => kept' ⟨is, h⟩))
      · exact if_neg (mt still.1 is)

end Sys2Proof.Machine
end

section
/-! PROOFS. What the service port reports (R140, R168, section 11.6) and the mirror commands (R113, R120, R121, R126). -/

namespace Sys2Proof.Machine

/-! ### Bytes (section 11.6) -/

theorem counterBytes_eq (c : BitVec 32) :
    counterBytes c = [c.extractLsb' 24 8, c.extractLsb' 16 8, c.extractLsb' 8 8, c.extractLsb' 0 8] := by
  have byte (n : Nat) : BitVec.ofNat 8 (c.toNat / 2 ^ n) = c.extractLsb' n 8 := by
    apply BitVec.eq_of_toNat_eq
    simp [Nat.shiftRight_eq_div_pow]
  simp only [counterBytes, be32, be16_eq_bytes, List.cons_append, List.nil_append, Nat.div_div_eq_div_mul]
  exact congrArg₂ _ (byte 24) (congrArg₂ _ (byte 16) (congrArg₂ _ (byte 8) (congrArg₂ _ ((byte 0).symm ▸ by simp) rfl)))

theorem toList_four {α : Type} (v : Vector α 4) : v.toList = [v[(0 : Fin 4)], v[(1 : Fin 4)], v[(2 : Fin 4)], v[(3 : Fin 4)]] := by
  apply List.ext_getElem
  · simp
  · intro i below _
    have : i < 4 := by simpa using below
    interval_cases i <;> simp

/-! ### Status, counters and the tracker (R140, R168) -/

section
variable {s : State} (live : s.resetN = false)
include live

theorem exec_getStatus (page : Byte) : exec (.getStatus page) s = .next (s.getStatus page) := next_of_live live

theorem exec_getCounters (group : Byte) : exec (.getCounters group) s = .next (s.getCounters group) := next_of_live live

theorem exec_readTracker (position : Byte) : exec (.readTracker position) s = .next (s.readTracker position) :=
  next_of_live live

end

/-- Settles O60: page by page, group by group, position by position. -/
theorem portReportsTheState : Obligations.PortReportsTheState := by
  unfold Obligations.PortReportsTheState
  intro page group position interval s live bit byte bad long rank outcomes f c
  have counter (x : BitVec 32) : counterBytes x = long x := counterBytes_eq x
  have outcome (k : RankNo) : (s.counters.outcomes[k]).bytes = outcomes k := by
    simp only [OutcomeCounters.bytes, counter, outcomes]
  have ranks : s.ranks.toList.flatMap RankSched.statusBytes = rank 0 ++ rank 1 ++ rank 2 ++ rank 3 := by
    have one (k : RankNo) : (s.ranks[k]).statusBytes = rank k := by
      simp only [RankSched.statusBytes, rank]
      cases (s.ranks[k]).state <;> rfl
    simp only [toList_four, List.flatMap_cons, List.flatMap_nil, one, List.append_nil, List.append_assoc]
  refine ⟨fun is => ?_, fun is => ?_, fun is => ?_, fun is => ?_, fun is => ?_, fun is => ?_, fun is => ?_, fun is => ?_,
    fun is => ?_, fun is => ?_, fun is => ?_, ?_, ?_, fun is => ?_, fun is => ⟨fun e there => ?_, fun missing => ?_⟩⟩
  · subst is
    refine (exec_getStatus live 0).trans (congrArg Host.Outcome.next (congrArg s.ok ?_))
    simp only [State.statusPage0, ranks, ← List.append_assoc]
    cases s.quiesce <;> rfl
  · subst is
    refine (exec_getStatus live 1).trans (congrArg Host.Outcome.next (congrArg s.ok ?_))
    refine (List.append_assoc ..).trans (congrArg₂ (· ++ ·) (congrArg₂ (· ++ ·) (congrArg₂ (· ++ ·)
      (congrArg₂ (· ++ ·) ?mode ?job) rfl) ?cursor) rfl)
    case mode => cases s.engine.mode <;> rfl
    case job =>
      simp only [Engine.jobBytes]
      cases s.engine.job with
      | none => rfl
      | some j =>
        obtain ⟨ref, _, _, _, _, _, _⟩ := j
        cases ref <;> rfl
    case cursor =>
      simp only [Patrol.cursorBytes]
      cases s.patrol.cursor <;> rfl
  · subst is
    refine (exec_getStatus live 2).trans (congrArg Host.Outcome.next (congrArg s.ok ?_))
    simp only [State.statusPage2]
    rfl
  · have other (n : Byte) (small : n.toNat ≤ 2) : page ≠ n := by
      rintro rfl
      omega
    refine (exec_getStatus live page).trans (congrArg Host.Outcome.next ?_)
    simp only [State.getStatus, if_neg (other 0 (by decide)), if_neg (other 1 (by decide)), if_neg (other 2 (by decide))]
    rfl
  · subst is
    refine (exec_getCounters live 0).trans (congrArg Host.Outcome.next (congrArg s.ok ?_))
    rw [← outcome, ← outcome]
  · subst is
    refine (exec_getCounters live 1).trans (congrArg Host.Outcome.next (congrArg s.ok ?_))
    rw [← outcome, ← outcome]
  · subst is
    refine (exec_getCounters live 2).trans (congrArg Host.Outcome.next (congrArg s.ok ?_))
    simp only [List.flatMap_cons, List.flatMap_nil, List.append_nil, counter, List.append_assoc, c]
  · subst is
    refine (exec_getCounters live 3).trans (congrArg Host.Outcome.next (congrArg s.ok ?_))
    simp only [List.flatMap_cons, List.flatMap_nil, List.append_nil, counter, List.append_assoc, c]
  · subst is
    refine (exec_getCounters live 4).trans (congrArg Host.Outcome.next (congrArg s.ok ?_))
    simp only [List.flatMap_cons, List.flatMap_nil, List.append_nil, counter, List.append_assoc, c]
  · subst is
    refine (exec_getCounters live 5).trans (congrArg Host.Outcome.next (congrArg s.ok ?_))
    simp only [toList_four, List.flatMap_cons, List.flatMap_nil, List.append_nil, counter, List.append_assoc, c]
  · have other (n : Byte) (small : n.toNat ≤ 5) : group ≠ n := by
      rintro rfl
      omega
    have none_there : s.counters.group group = none := by
      simp only [Counters.group, if_neg (other 0 (by decide)), if_neg (other 1 (by decide)), if_neg (other 2 (by decide)),
        if_neg (other 3 (by decide)), if_neg (other 4 (by decide)), if_neg (other 5 (by decide))]
    refine (exec_getCounters live group).trans (congrArg Host.Outcome.next ?_)
    simp only [State.getCounters, none_there]
    rfl
  · exact next_of_live live
  · exact next_of_live live
  · refine (exec_readTracker live position).trans (congrArg Host.Outcome.next ?_)
    exact if_neg (by rw [Config.trackerSize]; omega)
  · refine (exec_readTracker live position).trans (congrArg Host.Outcome.next ((if_pos ?_).trans ?_))
    · rw [Config.trackerSize]
      omega
    · simp only [there]
      rfl
  · refine (exec_readTracker live position).trans (congrArg Host.Outcome.next ((if_pos ?_).trans ?_))
    · rw [Config.trackerSize]
      omega
    · simp only [missing]
      rfl

end Sys2Proof.Machine
end

section
/-! PROOFS. The mirror commands (R113, R120, R121, R126). -/

namespace Sys2Proof.Machine

/-! ### A release beside the log, the port and the error tracker (R107)

The release of a held entry looks at none of them and leaves them, so what is written there before it or after it is the
same. -/

/-- The log, the port and the error tracker replaced. -/
def State.beside (s : State) (log : EventLog) (port : ServicePort) (tracker : List TrackerEntry) : State :=
  { s with log := log, port := port, tracker := tracker }

section
variable (s : State) (log : EventLog) (port : ServicePort) (tracker : List TrackerEntry)

theorem placeEntryWrites_beside (la : LineAddr) (f : LineForm) (locs : List Loc) :
    locs.foldl (State.placeEntryWrite la f) (s.beside log port tracker) =
      (locs.foldl (State.placeEntryWrite la f) s).beside log port tracker := by
  induction locs generalizing s with
  | nil => rfl
  | cons l locs ih => exact ih (State.placeEntryWrite la f s l)

theorem passEntry_beside (la : LineAddr) (f : LineForm) :
    (s.beside log port tracker).passEntry la f = (s.passEntry la f).beside log port tracker := by
  have route : (s.beside log port tracker).writeRoute la = s.writeRoute la := rfl
  simp only [State.passEntry, route]
  cases s.writeRoute la with
  | stale =>
    simp only [State.dropOldest, State.oweWrite_eq]
    rfl
  | hold => rfl
  | places locs =>
    simp only [placeEntryWrites_beside]
    rfl

theorem releaseHeld_beside (held : Option LineAddr) :
    (s.beside log port tracker).releaseHeld held = (s.releaseHeld held).beside log port tracker := by
  cases held with
  | none => rfl
  | some la =>
    have oldest : (s.beside log port tracker).oldestEntry la = s.oldestEntry la := rfl
    simp only [State.releaseHeld, oldest]
    split
    · exact passEntry_beside ..
    · rfl

end

theorem releaseHeld_offer (s : State) (held : Option LineAddr) (e : Event) :
    (s.releaseHeld held).offer e = (s.offer e).releaseHeld held := by
  refine Eq.trans ?_ (releaseHeld_beside s (s.log.offer e) s.port s.tracker held).symm
  rw [State.releaseHeld_eq]
  rfl

theorem releaseHeld_respond (s : State) (held : Option LineAddr) (result : Result) (payload : List Byte) :
    (s.releaseHeld held).respond result payload = (s.respond result payload).releaseHeld held := by
  refine Eq.trans ?_
    (releaseHeld_beside s s.log { s.port with response := frameBytes result.code payload } s.tracker held).symm
  rw [State.releaseHeld_eq]
  rfl

theorem releaseHeld_forgetRow (s : State) (held : Option LineAddr) (r : PhysRow) :
    (s.releaseHeld held).forgetRow r = (s.forgetRow r).releaseHeld held := by
  refine Eq.trans ?_
    (releaseHeld_beside s s.log s.port (s.tracker.filter fun e => decide (e.row ≠ r)) held).symm
  rw [State.releaseHeld_eq]
  rfl

/-! ### A resync cancelled (R113) -/

/-- A resync cancelled leaves the queue, and the job in progress for it is closed, its held entry released. -/
theorem State.cancelResync_none {s : State} {i : RegionIx} (idle : s.jobFor (.resync i) = none) :
    s.cancelResync i = s.removeJob (.resync i) := State.closeJob_none _ _ idle

theorem State.cancelResync_some {s : State} {i : RegionIx} {j : Job} (found : s.jobFor (.resync i) = some j) :
    s.cancelResync i =
      { s with engine := { s.engine with queue := s.engine.queue.erase (.resync i) }.closing j }.releaseHeld j.heldLine :=
  State.closeJob_eq_release (s := s.removeJob (.resync i)) found

/-! ### FAIL_SIDE, RESYNC_REGION and READ_MIRROR -/

theorem sideOf_of_gt {b : Byte} (h : 1 < b.toNat) : sideOf b = none := by
  have other (n : Byte) (small : n.toNat ≤ 1) : b ≠ n := by
    rintro rfl
    omega
  rw [sideOf, if_neg (other 0 (by decide)), if_neg (other 1 (by decide))]

theorem sideOf_of_le {b : Byte} (h : b.toNat ≤ 1) : (b = 0 ∧ sideOf b = some .primary) ∨ (b = 1 ∧ sideOf b = some .shadow) := by
  rcases Nat.le_one_iff_eq_zero_or_eq_one.1 h with zero | one
  · obtain rfl : b = 0 := BitVec.eq_of_toNat_eq zero
    exact .inl ⟨rfl, rfl⟩
  · obtain rfl : b = 1 := BitVec.eq_of_toNat_eq one
    exact .inr ⟨rfl, rfl⟩

/-- State and counts of a mirror record, 0 without one (R126). -/
def mirrorBytes : Option MirrorRecord → List Byte
  | none => [0, 0, 0]
  | some m => [m.state.code, byte1 m.primaryCount, byte1 m.shadowCount]

section
variable {s : State} {index side : Byte} {i : RegionIx} {x : Side} {m : MirrorRecord} (reads : regionOf index = some i)
include reads

theorem State.readMirror_eq : s.readMirror index = s.ok (mirrorBytes s.mirrors[i] ++ s.resyncBytes i) := by
  simp only [State.readMirror, reads]
  rfl

theorem State.failSide_unmirrored (readsSide : sideOf side = some x) (missing : s.mirrors[i] = none) :
    s.failSide index side = s.refuse .state := by
  simp only [State.failSide, reads, readsSide, missing]

theorem State.failSide_refused {why : PortReason} (readsSide : sideOf side = some x) (record : s.mirrors[i] = some m)
    (result : failSideResult m.state x = .inr why) : s.failSide index side = s.refuse why := by
  simp only [State.failSide, reads, readsSide, record, result]

theorem State.failSide_failed {m' : MirrorState} (readsSide : sideOf side = some x) (record : s.mirrors[i] = some m)
    (result : failSideResult m.state x = .inl m') :
    s.failSide index side =
      (((s.setMirror i (some { m with state := m' })).cancelResync i).offer (.mirrorSideFailed i x .management)).ok [m'.code] := by
  simp only [State.failSide, reads, readsSide, record, result]

theorem State.resyncRegion_unmirrored (missing : s.mirrors[i] = none) : s.resyncRegion index = s.refuse .state := by
  simp only [State.resyncRegion, reads, missing]

theorem State.resyncRegion_refused {why : PortReason} (record : s.mirrors[i] = some m) (result : resyncResult m.state = .inr why) :
    s.resyncRegion index = s.refuse why := by
  simp only [State.resyncRegion, reads, record, result]

theorem State.resyncRegion_begun {m' : MirrorState} (record : s.mirrors[i] = some m) (result : resyncResult m.state = .inl m') :
    s.resyncRegion index = ((s.setMirror i (some { m with state := m' })).appendJob (.resync i)).ok [m'.code] := by
  simp only [State.resyncRegion, reads, record, result]

end

/-- Settles O56: the bytes out of range, the record missing, then the mirror states and the resync's place. -/
theorem mirrorCommandsAnswer : Obligations.MirrorCommandsAnswer := by
  unfold Obligations.MirrorCommandsAnswer
  intro index side s live bad
  have fails : exec (.failSide index side) s = .next (s.failSide index side) := next_of_live live
  have resyncs : exec (.resyncRegion index) s = .next (s.resyncRegion index) := next_of_live live
  have shows : exec (.readMirror index) s = .next (s.readMirror index) := next_of_live live
  refine ⟨fun out => ?_, fun out => ⟨?_, ?_⟩, fun i here => ?_⟩
  · rw [fails]
    refine congrArg Host.Outcome.next ?_
    rcases out with region | other
    · simp only [State.failSide, regionOf_of_gt region]
      rfl
    · simp only [State.failSide, sideOf_of_gt other]
      cases regionOf index <;> rfl
  · rw [resyncs]
    simp only [State.resyncRegion, regionOf_of_gt out]
    rfl
  · rw [shows]
    simp only [State.readMirror, regionOf_of_gt out]
    rfl
  · intro mine idle reads
    have region : regionOf index = some i := regionOf_of_val here
    have mine_iff (j : Job) : mine j ↔ s.jobFor (.resync i) = some j := s.jobFor_eq_some.symm
    have idle_iff : idle ↔ s.jobFor (.resync i) = none := by
      simp only [idle, mine_iff, Option.eq_none_iff_forall_ne_some, ne_eq]
    have reads_of {three : List Byte} (bytes : mirrorBytes s.mirrors[i] = three) : reads three := by
      have shown : exec (.readMirror index) s = .next (s.ok (three ++ s.resyncBytes i)) := by
        rw [shows, State.readMirror_eq region, bytes]
      refine ⟨fun none_there out => ?_, fun none_there queued => ?_, fun j found => ?_⟩
      · refine shown.trans (congrArg (fun b => Host.Outcome.next (s.ok (three ++ b))) ?_)
        simp only [State.resyncBytes, idle_iff.1 none_there]
        rw [List.contains_eq_mem, decide_eq_false out]
        rfl
      · refine shown.trans (congrArg (fun b => Host.Outcome.next (s.ok (three ++ b))) ?_)
        simp only [State.resyncBytes, idle_iff.1 none_there]
        rw [List.contains_eq_mem, decide_eq_true queued]
        rfl
      · refine shown.trans (congrArg (fun b => Host.Outcome.next (s.ok (three ++ b))) ?_)
        simp only [State.resyncBytes, (mine_iff j).1 found]
    have sides (small : side.toNat ≤ 1) : sideOf side = some (if side = 0 then .primary else .shadow) := by
      rcases sideOf_of_le small with ⟨rfl, read⟩ | ⟨rfl, read⟩
      · exact read
      · exact read
    refine ⟨fun missing => reads_of (by rw [missing]; rfl), fun missing small => ⟨?_, ?_⟩, fun m record => ?_⟩
    · rw [fails, State.failSide_unmirrored region (sides small) missing]
      rfl
    · rw [resyncs, State.resyncRegion_unmirrored region missing]
      rfl
    · intro x failed rebuilt refuses unqueued stopped
      replace record : s.mirrors[i] = some m := record
      have failing {code : Byte} {m' : MirrorState} {e : Engine} {held : Option LineAddr} (small : side.toNat ≤ 1)
          (result : failSideResult m.state x = .inl m') (coded : m'.code = code)
          (cancelled : (s.setMirror i (some { m with state := m' })).cancelResync i =
            State.releaseHeld { s with mirrors := s.mirrors.set i (some { m with state := m' }), engine := e } held) :
          failed code m' e held := by
        refine ⟨_, fails, ?_⟩
        rw [State.failSide_failed region (sides small) record result, cancelled, releaseHeld_offer, State.ok,
          releaseHeld_respond, ← coded]
        exact State.released_releaseHeld _ held
      have stopping {code : Byte} {m' : MirrorState} (small : side.toNat ≤ 1) (result : failSideResult m.state x = .inl m')
          (coded : m'.code = code) : stopped code m' := by
        refine ⟨fun none_there => failing small result coded ?_, fun j found =>
          ⟨fun resting => failing small result coded ?_, fun st stepping => failing small result coded ?_⟩⟩
        · exact State.cancelResync_none (s := s.setMirror i (some { m with state := m' })) (idle_iff.1 none_there)
        · refine (State.cancelResync_some (s := s.setMirror i (some { m with state := m' })) ((mine_iff j).1 found)).trans ?_
          simp only [Engine.closing, Job.heldLine, resting]
          rfl
        · refine (State.cancelResync_some (s := s.setMirror i (some { m with state := m' })) ((mine_iff j).1 found)).trans ?_
          simp only [Engine.closing, Job.heldLine, Job.lossInFlight, stepping]
          rfl
      have rebuilding {code : Byte} {m' : MirrorState} (result : resyncResult m.state = .inl m') (coded : m'.code = code) :
          rebuilt code m' := by
        rw [← coded]
        exact resyncs.trans (congrArg Host.Outcome.next (State.resyncRegion_begun region record result))
      refine ⟨reads_of ?_, fun small => ?_⟩
      · rw [record]
        simp only [mirrorBytes]
        cases m.state <;> rfl
      · have unqueues (out : .resync i ∉ s.engine.queue) (none_there : idle) (m' : MirrorState) :
            (s.setMirror i (some { m with state := m' })).cancelResync i =
              State.releaseHeld { s with mirrors := s.mirrors.set i (some { m with state := m' }), engine := s.engine } none := by
          refine (State.cancelResync_none (s := s.setMirror i (some { m with state := m' })) (idle_iff.1 none_there)).trans ?_
          have same : (s.setMirror i (some { m with state := m' })).engine.queue.erase (.resync i) = s.engine.queue :=
            List.erase_of_not_mem out
          rw [State.removeJob, same]
          rfl
        have refusal {c : Instr} {t : State} {why : PortReason} (run : exec c s = .next t) (is : t = s.refuse why) :
            refuses c why.code := run.trans (congrArg Host.Outcome.next is)
        have refusesSide {why : PortReason} (result : failSideResult m.state x = .inr why) :
            refuses (.failSide index side) why.code :=
          refusal fails (State.failSide_refused region (sides small) record result)
        have refusesResync {why : PortReason} (result : resyncResult m.state = .inr why) :
            refuses (.resyncRegion index) why.code :=
          refusal resyncs (State.resyncRegion_refused region record result)
        rcases sideOf_of_le small with ⟨rfl, -⟩ | ⟨rfl, -⟩
        · cases state : m.state with
          | duplex =>
            exact ⟨fun out none_there => failing small (by rw [state]; rfl) rfl (unqueues out none_there _),
              refusesResync (why := .state) (by rw [state]; rfl)⟩
          | simplexPrimary =>
            exact ⟨refusesSide (why := .state) (by rw [state]; rfl), rebuilding (by rw [state]; rfl) rfl⟩
          | simplexShadow =>
            exact ⟨refusesSide (why := .already) (by rw [state]; rfl), rebuilding (by rw [state]; rfl) rfl⟩
          | rebuildShadow =>
            exact ⟨fun _ => refusesSide (why := .state) (by rw [state]; rfl), fun other => absurd other (by decide),
              refusesResync (why := .already) (by rw [state]; rfl)⟩
          | rebuildPrimary =>
            exact ⟨fun other => absurd other (by decide), fun _ => stopping small (by rw [state]; rfl) rfl,
              refusesResync (why := .already) (by rw [state]; rfl)⟩
        · cases state : m.state with
          | duplex =>
            exact ⟨fun out none_there => failing small (by rw [state]; rfl) rfl (unqueues out none_there _),
              refusesResync (why := .state) (by rw [state]; rfl)⟩
          | simplexPrimary =>
            exact ⟨refusesSide (why := .already) (by rw [state]; rfl), rebuilding (by rw [state]; rfl) rfl⟩
          | simplexShadow =>
            exact ⟨refusesSide (why := .state) (by rw [state]; rfl), rebuilding (by rw [state]; rfl) rfl⟩
          | rebuildShadow =>
            exact ⟨fun other => absurd other (by decide), fun _ => stopping small (by rw [state]; rfl) rfl,
              refusesResync (why := .already) (by rw [state]; rfl)⟩
          | rebuildPrimary =>
            exact ⟨fun _ => refusesSide (why := .state) (by rw [state]; rfl), fun other => absurd other (by decide),
              refusesResync (why := .already) (by rw [state]; rfl)⟩

end Sys2Proof.Machine
end

section
/-! PROOFS. Retirement requests, with a copy and without (R81 to R88, R93, R94). -/

namespace Sys2Proof.Machine

/-! ### The part a row plays (R81) -/

section
variable {s : State} {r : PhysRow} {n : SlotIx} {e : SlotEntry}

theorem State.partOf_of_movedHome (used : s.slots[n] = some e) (home : e.home = r) (moved : e.currentRow ≠ r) :
    s.partOf r = .movedHome := by
  have found : (s.slotsInUse.any fun x => decide (x.2.home = r ∧ x.2.currentRow ≠ r)) = true :=
    List.any_eq_true.2 ⟨(n, e), (s.mem_slotsInUse n e).2 used, by simp [home, moved]⟩
  simp only [State.partOf, found, if_true]

/-- A lookup that only one slot meets finds its entry. -/
theorem State.find_slotsInUse {test : SlotEntry → Bool} (used : s.slots[n] = some e) (here : test e = true)
    (only : ∀ m : SlotIx, ∀ f ∈ s.slots[m], test f = true → m = n) :
    (s.slotsInUse.find? fun x => test x.2) = some (n, e) := by
  cases found : s.slotsInUse.find? fun x => test x.2 with
  | none => exact absurd here (by simpa using List.find?_eq_none.1 found (n, e) ((s.mem_slotsInUse n e).2 used))
  | some x =>
    obtain ⟨m, f⟩ := x
    have used' : s.slots[m] = some f := (s.mem_slotsInUse m f).1 (List.mem_of_find?_eq_some found)
    obtain rfl : m = n := only m f used' (by simpa using List.find?_some found)
    rw [used] at used'
    rw [Option.some.inj used']

/-- No home row that has been moved away. -/
def State.homesStay (s : State) (r : PhysRow) : Prop := ∀ n : SlotIx, ∀ e ∈ s.slots[n], e.home = r → e.currentRow = r

theorem State.movedHome_none (stay : s.homesStay r) :
    (s.slotsInUse.any fun x => decide (x.2.home = r ∧ x.2.currentRow ≠ r)) = false := by
  rw [List.any_eq_false]
  rintro ⟨m, f⟩ used
  simpa using stay m f ((s.mem_slotsInUse m f).1 used)

theorem State.partOf_of_current (stay : s.homesStay r) (used : s.slots[n] = some e) (here : e.currentRow = r)
    (only : ∀ m : SlotIx, ∀ f ∈ s.slots[m], f.currentRow = r → m = n) : s.partOf r = .current n e := by
  have found := s.find_slotsInUse (test := fun f => decide (f.currentRow = r)) used (by simpa using here)
    fun m f used same => only m f used (by simpa using same)
  simp only [State.partOf, State.movedHome_none stay, Bool.false_eq_true, if_false, found]

theorem State.partOf_of_next (stay : s.homesStay r) (others : ∀ m : SlotIx, ∀ f ∈ s.slots[m], f.currentRow ≠ r)
    (used : s.slots[n] = some e) (here : e.nextRow = some r)
    (only : ∀ m : SlotIx, ∀ f ∈ s.slots[m], f.nextRow = some r → m = n) : s.partOf r = .next n e := by
  have missing : (s.slotsInUse.find? fun x => decide (x.2.currentRow = r)) = none := by
    rw [List.find?_eq_none]
    rintro ⟨m, f⟩ used
    simpa using others m f ((s.mem_slotsInUse m f).1 used)
  have found := s.find_slotsInUse (test := fun f => decide (f.nextRow = some r)) used (by simpa using here)
    fun m f used same => only m f used (by simpa using same)
  simp only [State.partOf, State.movedHome_none stay, Bool.false_eq_true, if_false, missing, found]

end

/-- The locations of an entry are rows of its home row's bank (R76). -/
theorem SlotEntry.sameBank_current (e : SlotEntry) {r : PhysRow} (here : e.currentRow = r) :
    e.home.rank = r.rank ∧ e.home.bank = r.bank := by
  rw [← here]
  exact ⟨rfl, rfl⟩

theorem SlotEntry.sameBank_next (e : SlotEntry) {r : PhysRow} (here : e.nextRow = some r) :
    e.home.rank = r.rank ∧ e.home.bank = r.bank := by
  simp only [SlotEntry.nextRow] at here
  split at here
  · rw [← Option.some.inj here]
    exact ⟨rfl, rfl⟩
  · rw [← Option.some.inj here]
    exact ⟨rfl, rfl⟩
  · cases here

/-! ### The conditions of a new retirement (R80, R87) -/

/-- The bytes of a command read back as the row they were written from (R93). -/
theorem physRowOf_bytes (r : PhysRow) :
    physRowOf (BitVec.ofNat 8 r.rank.val) (BitVec.ofNat 8 r.bank.val) (BitVec.ofNat 16 r.row.val) = some r := by
  obtain ⟨rank, bank, row⟩ := r
  have readsRank : rankOf (BitVec.ofNat 8 rank.val) = some rank := rankOf_of_val (by
    simp only [BitVec.toNat_ofNat]
    omega)
  have readsBank : bankOf (BitVec.ofNat 8 bank.val) = some bank := bankOf_of_val (by
    simp only [BitVec.toNat_ofNat]
    omega)
  have readsRow : rowOf (BitVec.ofNat 16 row.val) = row := by
    apply Fin.ext
    simp only [rowOf, BitVec.toNat_ofNat]
    exact Nat.mod_eq_of_lt row.isLt
  simp only [physRowOf, readsRank, readsBank, readsRow]

/-! ### RETIRE_ROW with NO_COPY (R94) -/

theorem physRowOf_none {rank bank : Byte} {row : BitVec 16} (out : 3 < rank.toNat ∨ 15 < bank.toNat) :
    physRowOf rank bank row = none := by
  simp only [physRowOf]
  rcases out with far | far
  · simp only [rankOf_of_gt far]
  · simp only [bankOf_of_gt far]
    cases rankOf rank <;> rfl

theorem flagOf_of_gt {b : Byte} (h : 1 < b.toNat) : flagOf b = none := by
  refine flagOf_of_not_flag ?_
  rintro (rfl | rfl) <;> exact absurd h (by decide)

section
variable {s : State} {r : PhysRow} (closed : s.front.admission = .closed) (empty : s.front.empty = true)
include closed empty

/-- With admission CLOSED and no request left, the request is sorted by the part of its row. -/
theorem State.retireNoCopy_sorted : s.retireNoCopy r = match s.partOf r with
    | .movedHome => s.refuse .already
    | .current i e => if e.phase = .active then s.retargetNoCopy r i e else s.refuse .state
    | .next _ _ => s.refuse .state
    | .none => s.newNoCopy r := by
  simp only [State.retireNoCopy, closed, empty, reduceCtorEq, if_false, Bool.true_eq_false]
  cases s.partOf r with
  | current i e => cases phase : e.phase <;> simp [phase]
  | movedHome | next | none => rfl

end

/-- An entry with a spare taken for it, in the words of R80 and R88. -/
def State.spareGiven (s : State) (r : PhysRow) (i : SlotIx) (e : SlotEntry) : State :=
  { s with
    slots := s.slots.set i (some e)
    cursors := s.cursors.set (cursorIx r.rank r.bank) (s.cursors[cursorIx r.rank r.bank] + 1)
    log := s.log.offer (.retireStarted i r e.cause)
    tracker := s.tracker.filter fun x => decide (x.row ≠ r) }

section
variable {s : State} {r : PhysRow} {i : SlotIx} {e : SlotEntry} (rank : e.home.rank = r.rank) (bank : e.home.bank = r.bank)
include rank bank

/-- The allocation for an entry is that for the rank and bank of its rows (R80). -/
theorem State.allocate_left (left : spareAt s.active r.rank s.cursors[cursorIx r.rank r.bank] = none) :
    s.allocate e.home.rank e.home.bank = none := by
  rw [rank, bank, State.allocate_eq, left, Option.map_none]

theorem State.allocate_taken {x : RowNo} (left : spareAt s.active r.rank s.cursors[cursorIx r.rank r.bank] = some x) :
    s.allocate e.home.rank e.home.bank =
      some (x, { s with cursors := s.cursors.set (cursorIx r.rank r.bank) (s.cursors[cursorIx r.rank r.bank] + 1) }) := by
  rw [rank, bank, State.allocate_eq, left, Option.map_some]

/-- A spare given to the row of an ACTIVE entry, or the refusal (R94). -/
theorem State.retargetNoCopy_noSpare (left : spareAt s.active r.rank s.cursors[cursorIx r.rank r.bank] = none) :
    s.retargetNoCopy r i e = s.refuse .noSpare := by
  simp only [State.retargetNoCopy, State.allocate_left rank bank left]

theorem State.retargetNoCopy_given {x : RowNo} (left : spareAt s.active r.rank s.cursors[cursorIx r.rank r.bank] = some x) :
    s.retargetNoCopy r i e =
      (s.spareGiven r i { e with current := x, cause := .targetFailed, lost := 0 }).ok (retireBytes i .retarget x) := by
  simp only [State.retargetNoCopy, State.allocate_taken rank bank left]
  rfl

end

/-- A row of no entry: its conditions in order, or the lowest free slot and a spare given to it (R87, R94). -/
theorem State.newNoCopy_notSpared {s : State} {r : PhysRow} (other : ¬ s.rowSpared r = true) :
    s.newNoCopy r = s.refuse .notSpared := if_neg other

theorem State.newNoCopy_full {s : State} {r : PhysRow} (spared : s.rowSpared r = true) (full : s.freeSlot = none) :
    s.newNoCopy r = s.refuse .tableFull := by
  simp only [State.newNoCopy, if_pos spared, full]

theorem State.newNoCopy_free {s : State} {r : PhysRow} {i : SlotIx} (spared : s.rowSpared r = true)
    (free : s.freeSlot = some i) :
    s.newNoCopy r =
      match spareAt s.active r.rank s.cursors[cursorIx r.rank r.bank] with
      | none => s.refuse .noSpare
      | some x => { s.ok (retireBytes i .new x) with
        slots := s.slots.set i (some { home := r, current := x, phase := .active, cause := .management, lost := 0 })
        cursors := s.cursors.set (cursorIx r.rank r.bank) (s.cursors[cursorIx r.rank r.bank] + 1)
        log := s.log.offer (.retireStarted i r .management)
        tracker := s.tracker.filter fun e => decide (e.row ≠ r) } := by
  simp only [State.newNoCopy, if_pos spared, free, State.allocate_eq]
  cases spareAt s.active r.rank s.cursors[cursorIx r.rank r.bank] <;> rfl

/-- Settles O54: the bytes out of range, then the conditions of R94 in their order. -/
theorem rowsAreRetiredWithoutCopy : Obligations.RowsAreRetiredWithoutCopy := by
  unfold Obligations.RowsAreRetiredWithoutCopy
  refine ⟨fun rank bank flag row s live => ⟨fun out => ?_, fun out => ?_⟩, fun r s live => ?_⟩
  · refine (next_of_live live).trans (congrArg Host.Outcome.next ?_)
    simp only [physRowOf_none out]
    rfl
  · refine (next_of_live live).trans (congrArg Host.Outcome.next ?_)
    simp only [State.retireRow]
    rcases out with far | far | flagged
    · simp only [physRowOf_none (.inl far)]
      rfl
    · simp only [physRowOf_none (.inr far)]
      rfl
    · simp only [flagOf_of_gt flagged]
      cases physRowOf rank bank row <;> rfl
  · intro c spared spare accepted noHome
    have run : exec c s = .next (s.retireNoCopy r) := by
      refine (next_of_live live).trans (congrArg Host.Outcome.next ?_)
      simp only [physRowOf_bytes]
    have spared_iff : s.rowSpared r = true ↔ spared := s.rowSpared_iff r
    refine ⟨fun opened => run.trans (congrArg Host.Outcome.next (if_pos opened)), fun closed held => ?_,
      fun closed tracker queue => ?_⟩
    · refine run.trans (congrArg Host.Outcome.next ?_)
      exact (if_neg (by simp [closed])).trans (if_pos ((FrontLink.empty_eq_false_iff _).2 held))
    · have sorted := run.trans (congrArg Host.Outcome.next
        (State.retireNoCopy_sorted closed ((FrontLink.empty_eq_true_iff _).2 (by simp [tracker, queue]))))
      refine ⟨fun n e used home moved => ?_, fun stay n e used here only => ?_, fun apart => ⟨fun other => ?_, fun is full => ?_,
        fun is i lowest => ?_⟩⟩
      · rw [sorted, State.partOf_of_movedHome used home moved]
        rfl
      · by_cases current : e.currentRow = r
        · have part := State.partOf_of_current stay used current fun m f used same => only m f used (.inl same)
          obtain ⟨rank, bank⟩ := e.sameBank_current current
          have retargets (active : e.phase = .active) : exec c s = .next (s.retargetNoCopy r n e) := by
            rw [sorted, part]
            exact congrArg Host.Outcome.next (if_pos active)
          refine ⟨fun moving => ?_, fun active none_left => ?_, fun active x taken => ?_⟩
          · rw [sorted, part]
            exact congrArg Host.Outcome.next (if_neg moving)
          · rw [retargets active, State.retargetNoCopy_noSpare rank bank none_left]
            rfl
          · rw [retargets active, State.retargetNoCopy_given rank bank taken]
            rfl
        · have next : e.nextRow = some r := here.resolve_left current
          have others (m : SlotIx) (f : SlotEntry) (used' : f ∈ s.slots[m]) : f.currentRow ≠ r := by
            intro same
            obtain rfl := only m f used' (.inl same)
            rw [Option.mem_def, Option.mem_def.1 used] at used'
            exact current (Option.some.inj used' ▸ same)
          have part := State.partOf_of_next stay others used next fun m f used same => only m f used (.inr same)
          have moving : e.phase ≠ .active := by
            intro active
            simp [SlotEntry.nextRow, active] at next
          refine ⟨fun _ => ?_, fun active => absurd active moving, fun active => absurd active moving⟩
          rw [sorted, part]
          rfl
      · rw [sorted, s.partOf_none r apart]
        exact congrArg Host.Outcome.next (State.newNoCopy_notSpared (mt spared_iff.1 other))
      · rw [sorted, s.partOf_none r apart]
        exact congrArg Host.Outcome.next (State.newNoCopy_full (spared_iff.2 is) (s.freeSlot_none full))
      · have new : exec c s = .next (s.newNoCopy r) := by rw [sorted, s.partOf_none r apart]
        rw [State.newNoCopy_free (spared_iff.2 is) (s.freeSlot_of i lowest)] at new
        refine ⟨fun none_left => new.trans ?_, fun x here => new.trans ?_⟩
        · rw [show spareAt s.active r.rank s.cursors[cursorIx r.rank r.bank] = none from none_left]
          rfl
        · rw [show spareAt s.active r.rank s.cursors[cursorIx r.rank r.bank] = some x from here]
          rfl

/-! ### Requests with a copy (R81 to R88) -/

theorem replacedCause_eq (e : SlotEntry) :
    replacedCause e = if e.current = e.home.row then e.cause else .targetFailed := by
  simp only [replacedCause]
  by_cases home : e.current = e.home.row
  · rw [if_pos home, if_neg (not_not.2 home)]
  · rw [if_neg home, if_pos home]

section
variable {s : State} {r : PhysRow}

/-- A row of no entry (R87). -/
theorem State.newRetirement_notSpared (fromPort : Bool) (c : Cause) (other : ¬ s.rowSpared r = true) :
    s.newRetirement fromPort c r = s.refuseRetire fromPort r .notSpared := if_neg other

theorem State.newRetirement_full (fromPort : Bool) (c : Cause) (spared : s.rowSpared r = true) (full : s.freeSlot = none) :
    s.newRetirement fromPort c r = s.refuseRetire fromPort r .tableFull := by
  simp only [State.newRetirement, if_pos spared, full]

theorem State.newRetirement_noSpare {i : SlotIx} (fromPort : Bool) (c : Cause) (spared : s.rowSpared r = true)
    (free : s.freeSlot = some i) (left : spareAt s.active r.rank s.cursors[cursorIx r.rank r.bank] = none) :
    s.newRetirement fromPort c r = s.refuseRetire fromPort r .noSpare := by
  simp only [State.newRetirement, if_pos spared, free, State.allocate_eq, left, Option.map_none]

theorem State.newRetirement_started {i : SlotIx} {x : RowNo} (fromPort : Bool) (c : Cause) (spared : s.rowSpared r = true)
    (free : s.freeSlot = some i) (left : spareAt s.active r.rank s.cursors[cursorIx r.rank r.bank] = some x) :
    s.newRetirement fromPort c r =
      ((s.spareGiven r i { home := r, current := r.row, phase := .pending x, cause := c, lost := 0 }).appendJob (.rowMove i),
        .accepted i .new x) := by
  simp only [State.newRetirement, if_pos spared, free, State.allocate_eq, left, Option.map_some]
  rfl

variable {i : SlotIx} {e : SlotEntry} (rank : e.home.rank = r.rank) (bank : e.home.bank = r.bank)
include rank bank

/-- The current location of an ACTIVE entry (R83). -/
theorem State.retarget_noSpare (fromPort : Bool) (left : spareAt s.active r.rank s.cursors[cursorIx r.rank r.bank] = none) :
    s.retarget fromPort r i e = s.refuseRetire fromPort r .noSpare := by
  simp only [State.retarget, State.allocate_left rank bank left]

theorem State.retarget_started {x : RowNo} (fromPort : Bool)
    (left : spareAt s.active r.rank s.cursors[cursorIx r.rank r.bank] = some x) :
    s.retarget fromPort r i e =
      ((s.spareGiven r i { e with phase := .pending x, cause := .targetFailed, lost := 0 }).appendJob (.rowMove i),
        .accepted i .retarget x) := by
  simp only [State.retarget, State.allocate_taken rank bank left]
  rfl

/-- The next location of a PENDING entry (R85, R86). -/
theorem State.replaceTarget_pending {x n : RowNo} (fromPort : Bool) (pending : e.phase = .pending n)
    (left : spareAt s.active r.rank s.cursors[cursorIx r.rank r.bank] = some x) :
    s.replaceTarget fromPort r i e =
      (s.spareGiven r i { e with phase := .pending x, cause := replacedCause e, lost := 0 }, .accepted i .replace x) := by
  simp only [State.replaceTarget, State.allocate_taken rank bank left, pending]
  rfl

theorem State.replaceTarget_pendingAbandoned {n : RowNo} (fromPort : Bool) (pending : e.phase = .pending n)
    (left : spareAt s.active r.rank s.cursors[cursorIx r.rank r.bank] = none) :
    s.replaceTarget fromPort r i e =
      ((s.setSlot i (abandonedSlot e)).removeJob (.rowMove i)).refuseRetire fromPort r .noSpare := by
  simp only [State.replaceTarget, State.allocate_left rank bank left, pending]

omit rank bank in
/-- The job in progress restarted, its held entry released (R111). -/
theorem State.restartJob_some {ref : JobRef} {j : Job} {source target : PhysRow} (job : s.jobFor ref = some j) :
    s.restartJob ref source target =
      State.releaseHeld { s with engine := { s.engine with job := some { j with
        ends := .rows source target
        p := 0
        lost := 0
        step := j.step.map LineStep.discard } } } j.heldLine := by
  simp only [State.restartJob, job]

/-- The next location of a COPYING entry: the copy restarts toward the new spare (R85, R111). -/
theorem State.replaceTarget_copying {x n : RowNo} {j : Job} (fromPort : Bool) (copying : e.phase = .copying n)
    (left : spareAt s.active r.rank s.cursors[cursorIx r.rank r.bank] = some x) (job : s.jobFor (.rowMove i) = some j) :
    s.replaceTarget fromPort r i e =
      (State.releaseHeld
        { s.spareGiven r i { e with phase := .copying x, cause := replacedCause e, lost := 0 } with
          engine := { s.engine with job := some { j with
            ends := .rows e.currentRow { e.home with row := x }
            p := 0
            lost := 0
            step := j.step.map LineStep.discard } } } j.heldLine,
        .accepted i .replace x) := by
  have restart := State.restartJob_some (ref := .rowMove i) (j := j) (source := e.currentRow) (target := { e.home with row := x })
    (s := State.setSlot
      { s with cursors := s.cursors.set (cursorIx r.rank r.bank) (s.cursors[cursorIx r.rank r.bank] + 1) } i
      (some { e with phase := .copying x, cause := replacedCause e, lost := 0 })) job
  simp only [State.replaceTarget, State.allocate_taken rank bank left, copying]
  rw [restart]
  simp only [State.acceptRetire, releaseHeld_offer, releaseHeld_forgetRow]
  rfl

/-- The copy abandoned, its job closed (R86, R112). -/
theorem State.replaceTarget_copyAbandoned {n : RowNo} {j : Job} (fromPort : Bool) (copying : e.phase = .copying n)
    (left : spareAt s.active r.rank s.cursors[cursorIx r.rank r.bank] = none) (job : s.jobFor (.rowMove i) = some j) :
    s.replaceTarget fromPort r i e =
      (State.releaseHeld
        { s with
          slots := s.slots.set i (abandonedSlot { e with lost := e.lost - j.lossInFlight })
          engine := s.engine.closing j } j.heldLine).refuseRetire fromPort r .noSpare := by
  have close := State.closeJob_eq_release (ref := .rowMove i) (j := j)
    (s := s.setSlot i (abandonedSlot { e with lost := e.lost - j.lossInFlight })) job
  simp only [State.replaceTarget, State.allocate_left rank bank left, copying, State.countReached, job]
  exact congrArg (fun t : State => t.refuseRetire fromPort r .noSpare) close

end

/-- The answer of a command that asks for a retirement (R93). -/
theorem exec_retireRow {s : State} (live : s.resetN = false) (r : PhysRow) :
    exec (.retireRow (BitVec.ofNat 8 r.rank.val) (BitVec.ofNat 8 r.bank.val) (BitVec.ofNat 16 r.row.val) 0) s =
      .next (answerRetire (s.retire true .management r)) := by
  refine (next_of_live live).trans (congrArg Host.Outcome.next ?_)
  have off : flagOf 0 = some false := rfl
  simp only [State.retireRow, physRowOf_bytes, off]

theorem State.retire_apart {s : State} {r : PhysRow} (part : s.partOf r = .none) (fromPort : Bool) (c : Cause) :
    s.retire fromPort c r = s.newRetirement fromPort c r := by
  simp only [State.retire, part]

theorem State.retire_active {s : State} {r : PhysRow} {i : SlotIx} {e : SlotEntry} (part : s.partOf r = .current i e)
    (active : e.phase = .active) (fromPort : Bool) (c : Cause) : s.retire fromPort c r = s.retarget fromPort r i e := by
  simp only [State.retire, part, active]

/-- Settles O53: by the part of the row and the phase of its entry, with a spare and without. -/
theorem retirementRequestsAreSorted : Obligations.RetirementRequestsAreSorted := by
  unfold Obligations.RetirementRequestsAreSorted
  intro r s c spared spare ends refused taken queued accepted noHome noCurrent
  have spared_iff : s.rowSpared r = true ↔ spared := s.rowSpared_iff r
  have accepts {t : Cause → State} {held : Option LineAddr} {i : SlotIx} {a : Action} {x : RowNo}
      (is : ∀ fromPort cause, s.retire fromPort cause r = ((t cause).releaseHeld held, .accepted i a x)) :
      accepted i a.code x held t := by
    refine ⟨fun live => ⟨_, exec_retireRow live r, ?_⟩, fun cause => ?_⟩
    · rw [is]
      simp only [answerRetire, State.ok, releaseHeld_respond]
      exact State.released_releaseHeld _ held
    · rw [State.retireInternal, is]
      exact State.released_releaseHeld _ held
  have refuses {t : State} {held : Option LineAddr} {why : RetireReason}
      (is : ∀ fromPort cause, s.retire fromPort cause r = (t.releaseHeld held).refuseRetire fromPort r why) :
      refused t held why.toPort.code why := by
    refine ⟨fun live => ⟨_, exec_retireRow live r, ?_⟩, fun cause => ?_⟩
    · rw [is]
      simp only [answerRetire, State.refuseRetire, if_true, State.refuse, releaseHeld_respond]
      exact State.released_releaseHeld _ held
    · rw [State.retireInternal, is]
      simp only [State.refuseRetire, Bool.false_eq_true, if_false, releaseHeld_offer]
      exact State.released_releaseHeld _ held
  refine ⟨fun apart => ⟨fun other => ?_, fun is full => ?_, fun is i lowest => ⟨fun left => ?_, fun x left => ?_⟩⟩,
    fun n e used home moved => ?_, fun stay n e used here only => ⟨fun moving => ?_, fun active left => ?_, fun active x left => ?_⟩,
    fun stay others n e used here only => ?_⟩
  · exact refuses (t := s) (held := none) (why := .notSpared) fun fromPort cause =>
      (State.retire_apart (s.partOf_none r apart) ..).trans (State.newRetirement_notSpared _ _ (mt spared_iff.1 other))
  · exact refuses (t := s) (held := none) (why := .tableFull) fun fromPort cause =>
      (State.retire_apart (s.partOf_none r apart) ..).trans (State.newRetirement_full _ _ (spared_iff.2 is) (s.freeSlot_none full))
  · exact refuses (t := s) (held := none) (why := .noSpare) fun fromPort cause =>
      (State.retire_apart (s.partOf_none r apart) ..).trans
        (State.newRetirement_noSpare _ _ (spared_iff.2 is) (s.freeSlot_of i lowest) left)
  · exact accepts (held := none) (a := .new) fun fromPort cause =>
      (State.retire_apart (s.partOf_none r apart) ..).trans
        (State.newRetirement_started _ _ (spared_iff.2 is) (s.freeSlot_of i lowest) left)
  · exact refuses (t := s) (held := none) (why := .already) fun fromPort cause => by
      simp only [State.retire, State.partOf_of_movedHome used home moved]
      rfl
  · have merges (fromPort : Bool) (cause : Cause) : s.retire fromPort cause r = (s, .merged) := by
      simp only [State.retire, State.partOf_of_current stay used here only]
    refine ⟨fun live => ⟨_, exec_retireRow live r, ?_⟩, fun cause => ?_⟩
    · rw [merges]
      rfl
    · rw [State.retireInternal, merges]
      rfl
  · obtain ⟨rank, bank⟩ := e.sameBank_current here
    exact refuses (t := s) (held := none) (why := .noSpare) fun fromPort cause =>
      (State.retire_active (State.partOf_of_current stay used here only) active ..).trans (State.retarget_noSpare rank bank _ left)
  · obtain ⟨rank, bank⟩ := e.sameBank_current here
    exact accepts (held := none) (a := .retarget) fun fromPort cause =>
      (State.retire_active (State.partOf_of_current stay used here only) active ..).trans (State.retarget_started rank bank _ left)
  · intro cause lefts
    obtain ⟨rank, bank⟩ := e.sameBank_next here
    have replaces (fromPort : Bool) (cause : Cause) : s.retire fromPort cause r = s.replaceTarget fromPort r n e := by
      simp only [State.retire, State.partOf_of_next stay others used here only]
    have replaced : replacedCause e = cause := replacedCause_eq e
    have abandoned (lost : Nat) : abandonedSlot { e with lost := lost } = lefts lost := rfl
    refine ⟨fun pending => ⟨fun x left => ?_, fun left => ?_⟩, fun copying j job ref opened =>
      ⟨fun x left => ?_, fun left resting => ?_, fun st left stepping => ?_⟩⟩
    · rw [← replaced]
      exact accepts (held := none) (a := .replace) fun fromPort cause =>
        (replaces ..).trans (State.replaceTarget_pending rank bank _ pending left)
    · exact refuses (held := none) (why := .noSpare) fun fromPort cause =>
        (replaces ..).trans (State.replaceTarget_pendingAbandoned rank bank _ pending left)
    · intro ends
      have found : s.jobFor (.rowMove n) = some j := s.jobFor_eq_some.2 ⟨job, ref, opened⟩
      have held : j.step.bind (·.held) = j.heldLine := by
        simp only [Job.heldLine]
        cases j.step <;> rfl
      rw [held, ← replaced]
      exact accepts (a := .replace) fun fromPort cause =>
        (replaces ..).trans (State.replaceTarget_copying rank bank _ copying left found)
    · have found : s.jobFor (.rowMove n) = some j := s.jobFor_eq_some.2 ⟨job, ref, opened⟩
      refine refuses (held := none) (why := .noSpare) fun fromPort cause =>
        (replaces ..).trans ((State.replaceTarget_copyAbandoned rank bank _ copying left found).trans ?_)
      simp only [Job.lossInFlight, Engine.closing, Job.heldLine, resting]
      rfl
    · intro counted
      have found : s.jobFor (.rowMove n) = some j := s.jobFor_eq_some.2 ⟨job, ref, opened⟩
      refine refuses (held := st.held) (why := .noSpare) fun fromPort cause =>
        (replaces ..).trans ((State.replaceTarget_copyAbandoned rank bank _ copying left found).trans ?_)
      simp only [Job.lossInFlight, Engine.closing, Job.heldLine, stepping]
      rfl

end Sys2Proof.Machine
end

section
/-! PROOFS. Service port frames and the bus (R162 to R166, section 11.6). -/

namespace Sys2Proof

/-! ### Bytes and sums -/

theorem word16_bytes16 (w : BitVec 16) : word16 (w.extractLsb' 8 8) (w.extractLsb' 0 8) = w := by
  apply BitVec.eq_of_getLsbD_eq
  intro i hi
  simp only [word16, BitVec.getLsbD_append, BitVec.getLsbD_extractLsb']
  by_cases low : i < 8
  · simp [low]
  · have : i - 8 < 8 := by omega
    have : 8 + (i - 8) = i := by omega
    simp [*]

theorem bytes16_word16 (hi lo : Byte) : bytes16 (word16 hi lo) = [hi, lo] := by
  simp only [bytes16, word16, List.cons.injEq, and_true]
  constructor <;>
  · apply BitVec.eq_of_getLsbD_eq
    intro i below
    simp only [BitVec.getLsbD_extractLsb', BitVec.getLsbD_append]
    simp [below]

theorem byteSum_append (bs cs : List Byte) : byteSum (bs ++ cs) = byteSum bs + byteSum cs := by
  induction bs with
  | nil => simp [byteSum]
  | cons b bs ih => simp [byteSum, ih, BitVec.add_assoc]

theorem byteSum_toNat (bs : List Byte) : (byteSum bs).toNat = (bs.map BitVec.toNat).sum % 256 := by
  induction bs with
  | nil => rfl
  | cons b bs ih => simp [byteSum, ih, BitVec.toNat_add]

theorem byteSum_frameBytes (code : Byte) (payload : List Byte) : byteSum (frameBytes code payload) = 0 := by
  rw [frameBytes, byteSum_append]
  have cancel (x : Byte) : x + (-x + 0) = 0 := by bv_omega
  exact cancel _

/-! ### The checks of a frame (R164) -/

/-- The checks on the frame's first two bytes, its length and its sum. -/
theorem frameFailure_eq (f : List Byte) :
    frameFailure f =
      if f.length < 3 ∨ 32 < f.length ∨ f.length ≠ (f.getD 1 0).toNat + 3 then some .badLength
      else if byteSum f ≠ 0 then some .badFrame
      else match payloadLength (f.getD 0 0).toNat with
        | none => some .badCommand
        | some n => if (f.getD 1 0).toNat = n then none else some .badLength := by
  match f with
  | [] => rfl
  | [a] => rfl
  | [a, b] => simp [frameFailure]
  | a :: b :: c :: rest =>
    have long : ¬ (a :: b :: c :: rest).length < 3 := by simp
    simp only [frameFailure, long, false_or, gt_iff_lt]
    rfl

/-- A frame that passes is the frame of its code and of the payload that the code asks for. -/
theorem eq_frameBytes_of_passes {f : List Byte} (passes : frameFailure f = none) :
    ∃ (code : Byte) (payload : List Byte), f = frameBytes code payload ∧ payload.length ≤ 29
      ∧ payloadLength code.toNat = some payload.length := by
  rw [frameFailure_eq] at passes
  split_ifs at passes with shape sum
  push Not at shape sum
  obtain ⟨least, most, counted⟩ := shape
  match f with
  | [] | [_] => simp at least
  | code :: len :: rest =>
    have some_there : rest ≠ [] := by
      rintro rfl
      simp at least
    obtain ⟨payload, last, rfl⟩ : ∃ payload last, rest = payload ++ [last] :=
      ⟨rest.dropLast, rest.getLast some_there, (List.dropLast_append_getLast some_there).symm⟩
    simp only [List.length_cons, List.length_append, List.length_nil, List.getD_cons_succ, List.getD_cons_zero] at *
    have size : len.toNat = payload.length := by omega
    have length : len = BitVec.ofNat 8 payload.length := by rw [← size, BitVec.ofNat_toNat, BitVec.setWidth_eq]
    have check : last = - byteSum (code :: len :: payload) := by
      rw [← List.cons_append, ← List.cons_append, byteSum_append] at sum
      refine eq_neg_of_add_eq_zero_right (Eq.trans ?_ sum)
      exact congrArg (byteSum (code :: len :: payload) + ·) (BitVec.add_zero last).symm
    refine ⟨code, payload, ?_, by omega, ?_⟩
    · rw [frameBytes, ← length, ← check]
      rfl
    · split at passes
      · simp at passes
      next n asked =>
        rw [asked]
        by_cases same : len.toNat = n
        · rw [← same, size]
        · simp [same] at passes

/-- The frame of a code and of the payload it asks for passes. -/
theorem frameBytes_passes {code : Byte} {payload : List Byte} (short : payload.length ≤ 29)
    (asked : payloadLength code.toNat = some payload.length) : frameFailure (frameBytes code payload) = none := by
  have len : (frameBytes code payload).length = payload.length + 3 := by simp [frameBytes]
  have second : ((frameBytes code payload).getD 1 0).toNat = payload.length := by
    have : ((frameBytes code payload).getD 1 0) = BitVec.ofNat 8 payload.length := rfl
    rw [this, BitVec.toNat_ofNat]
    omega
  have first : (frameBytes code payload).getD 0 0 = code := rfl
  rw [frameFailure_eq, len, second, first, byteSum_frameBytes, asked, if_neg (by omega), if_neg (by simp)]
  simp

theorem decodeFrame_frameBytes {code : Byte} {payload : List Byte} (short : payload.length ≤ 29)
    (asked : payloadLength code.toNat = some payload.length) :
    decodeFrame (frameBytes code payload) = commandOf code.toNat payload := by
  have passes := frameBytes_passes short asked
  simp only [frameBytes, List.cons_append] at passes ⊢
  simp only [decodeFrame, passes]
  simp

/-! ### Codes and payloads (section 11.6) -/

/-- One row of the code table: the command its payload spells, well-formed, and the command's own bytes. -/
theorem spells_of_row {code : Byte} {n : Nat} {payload written : List Byte} {c : Instr} (is : code.toNat = n)
    (spelled : commandOf n payload = some c) (formed : c.wellFormed = true)
    (encoded : encodeFrame c = some (frameBytes (BitVec.ofNat 8 n) written)) (same : written = payload) :
    ∃ c : Instr, commandOf code.toNat payload = some c ∧ c.wellFormed = true
      ∧ encodeFrame c = some (frameBytes code payload) := by
  have back : BitVec.ofNat 8 n = code := by rw [← is, BitVec.ofNat_toNat, BitVec.setWidth_eq]
  subst same
  rw [back] at encoded
  exact ⟨c, by rw [is, spelled], formed, encoded⟩

/-- A payload of the length that its code asks for spells a well-formed command, which is written as that code and payload. -/
theorem commandOf_of_asked {code : Byte} {payload : List Byte} (asked : payloadLength code.toNat = some payload.length) :
    ∃ c : Instr, commandOf code.toNat payload = some c ∧ c.wellFormed = true
      ∧ encodeFrame c = some (frameBytes code payload) := by
  unfold payloadLength at asked
  split at asked
  case h_4 is =>
    match payload, asked with
    | [_, _, _, _, _, _, _, _, _, _], _ => exact spells_of_row is rfl rfl rfl (by simp [bytes16_word16])
  case h_8 is =>
    match payload, asked with
    | [k, b, r1, r0, flag], _ =>
      by_cases on : flag = 1
      · exact spells_of_row is (if_pos on) rfl rfl (by rw [bytes16_word16, on]; rfl)
      · exact spells_of_row is (if_neg on) (by simpa [Instr.wellFormed] using on) rfl (by simp [bytes16_word16])
  case h_21 => cases asked
  case h_3 is | h_6 is | h_16 is | h_17 is | h_19 is | h_20 is =>
    obtain rfl := List.eq_nil_of_length_eq_zero (Option.some.inj asked).symm
    exact spells_of_row is rfl rfl rfl rfl
  case h_5 is | h_10 is | h_12 is =>
    obtain ⟨a, b, rfl⟩ := List.length_eq_two.1 (Option.some.inj asked).symm
    exact spells_of_row is rfl rfl rfl rfl
  case h_14 is | h_18 is =>
    obtain ⟨a, b, rfl⟩ := List.length_eq_two.1 (Option.some.inj asked).symm
    exact spells_of_row is rfl rfl rfl (bytes16_word16 a b)
  case h_1 is | h_2 is | h_7 is | h_9 is | h_11 is | h_13 is | h_15 is =>
    obtain ⟨a, rfl⟩ := List.length_eq_one_iff.1 (Option.some.inj asked).symm
    exact spells_of_row is rfl rfl rfl rfl

/-- One row of the code table read back: the frame decodes to the command its payload spells. -/
theorem decodes_row {code : Byte} {payload f : List Byte} {c : Instr} (encoded : some (frameBytes code payload) = some f)
    (short : payload.length ≤ 29) (asked : payloadLength code.toNat = some payload.length)
    (spelled : commandOf code.toNat payload = some c) : decodeFrame f = some c := by
  rw [← Option.some.inj encoded, decodeFrame_frameBytes short asked, spelled]

/-- Settles O3: the commands one by one, then a frame by its checks and its code. -/
theorem framesSpellCommands : Obligations.FramesSpellCommands := by
  unfold Obligations.FramesSpellCommands
  refine ⟨fun c f formed encoded => ?_, fun f some_there => ?_⟩
  · cases c with
    | getStatus | getCounters | clearCounters | readRegion | commitRegions | readSlot | releaseSlot | readCursor | readMirror
    | failSide | resyncRegion | readTracker | popEvent | peekEvent | openFront | closeFront =>
      exact decodes_row encoded (by simp) rfl rfl
    | stageRegion i v k first last p pt t =>
      refine decodes_row encoded (by simp [bytes16]) rfl ?_
      rw [← word16_bytes16 first, ← word16_bytes16 last]
      simp only [bytes16_word16]
      rfl
    | setPatrol w =>
      refine decodes_row encoded (by simp [bytes16]) rfl ?_
      exact congrArg (fun x => some (Instr.setPatrol x)) (word16_bytes16 w)
    | setAlertMask w =>
      refine decodes_row encoded (by simp [bytes16]) rfl ?_
      exact congrArg (fun x => some (Instr.setAlertMask x)) (word16_bytes16 w)
    | retireRowNoCopy k b row =>
      refine decodes_row encoded (by simp [bytes16]) rfl ?_
      exact congrArg (fun x => some (Instr.retireRowNoCopy k b x)) (word16_bytes16 row)
    | retireRow k b row flag =>
      have off : flag ≠ 1 := by simpa [Instr.wellFormed] using formed
      refine decodes_row encoded (by simp [bytes16]) rfl ((if_neg off).trans ?_)
      exact congrArg (fun x => some (Instr.retireRow k b x flag)) (word16_bytes16 row)
    | commandFrameInvalid frame =>
      obtain rfl := Option.some.inj encoded
      match frame, formed with
      | code :: rest, formed =>
        obtain ⟨why, checks⟩ : ∃ why, frameFailure (code :: rest) = some why := by
          simpa [Instr.wellFormed, Option.isSome_iff_exists] using formed
        simp only [decodeFrame, checks]
    | _ => cases encoded
  · cases checks : frameFailure f with
    | some why =>
      match f, some_there with
      | code :: rest, _ =>
        refine ⟨.commandFrameInvalid (code :: rest), ?_, ?_, rfl⟩
        · simp only [decodeFrame, checks]
        · simp [Instr.wellFormed, checks]
    | none =>
      obtain ⟨code, payload, rfl, short, asked⟩ := eq_frameBytes_of_passes checks
      rw [decodeFrame_frameBytes short asked]
      exact commandOf_of_asked asked

/-- The payload lengths of the twenty command codes (section 11.6). -/
def codeLengths : List (Nat × Nat) :=
  [(0x01, 1), (0x02, 1), (0x03, 0), (0x10, 10), (0x11, 2), (0x12, 0), (0x20, 1), (0x21, 5), (0x22, 1),
   (0x23, 2), (0x30, 1), (0x31, 2), (0x32, 1), (0x40, 2), (0x41, 1), (0x50, 0), (0x51, 0), (0x52, 2),
   (0x60, 0), (0x61, 0)]

theorem lookup_codeLengths (b : Byte) : codeLengths.lookup b.toNat = payloadLength b.toNat := by
  revert b
  decide

end Sys2Proof

namespace Sys2Proof.Machine

/-- A transaction that fails a check replaces the response frame by the result's, and changes nothing else (R164). -/
theorem exec_commandFrameInvalid {s : State} {f : List Byte} {why : FrameFailure} (live : s.resetN = false) (some_there : f ≠ [])
    (checks : frameFailure f = some why) :
    exec (.commandFrameInvalid f) s = .next (s.respond (failureResult why) []) := by
  refine (next_of_live live).trans (congrArg Host.Outcome.next ((if_neg some_there).trans ?_))
  simp only [checks]

/-- Settles O4: along the checks in their order. -/
theorem frameChecksInOrder : Obligations.FrameChecksInOrder := by
  unfold Obligations.FrameChecksInOrder
  intro f s some_there live lengths code length sum fails
  have failing {why : FrameFailure} (checks : frameFailure f = some why) :
      fails (failureResult why).code (- byteSum [(failureResult why).code, 0]) := by
    refine ⟨?_, exec_commandFrameInvalid live some_there checks⟩
    match f, some_there, checks with
    | first :: rest, _, checks => simp only [decodeFrame, checks]
  have checks := frameFailure_eq f
  have table : lengths.lookup code = payloadLength code := lookup_codeLengths _
  have sum_zero : sum = 0 ↔ byteSum f = 0 := by
    rw [← BitVec.toNat_inj, byteSum_toNat]
    rfl
  by_cases shape : f.length < 3 ∨ 32 < f.length ∨ f.length ≠ length + 3
  · rw [if_pos shape] at checks ⊢
    exact failing checks
  · rw [if_neg shape] at checks ⊢
    by_cases balanced : byteSum f = 0
    · rw [if_neg (not_not.2 balanced)] at checks
      rw [if_neg (not_not.2 (sum_zero.2 balanced)), table]
      have asks : (f.getD 0 0).toNat = code := rfl
      rw [asks] at checks
      cases asked : payloadLength code with
      | none =>
        simp only [asked] at checks
        exact failing checks
      | some n =>
        simp only [asked] at checks
        by_cases right : length = n
        · refine (if_neg (not_not.2 right)).mpr ?_
          obtain ⟨first, payload, rfl, short, asked'⟩ := eq_frameBytes_of_passes (checks.trans (if_pos right))
          obtain ⟨c, spelled, -, -⟩ := commandOf_of_asked asked'
          have size : n = payload.length := Option.some.inj (asked.symm.trans asked')
          have body : ((frameBytes first payload).drop 2).take n = payload := by
            rw [size]
            simp [frameBytes]
          exact ⟨c, (decodeFrame_frameBytes short asked').trans spelled, by rw [body]; exact spelled,
            frameBytes_passes short asked'⟩
        · refine (if_pos right).mpr ?_
          exact failing (checks.trans (if_neg right))
    · rw [if_pos balanced] at checks
      rw [if_pos (mt sum_zero.1 balanced)]
      exact failing checks

/-! ### The bus (R162, R163, R166) -/

/-- What the edges of the resets and the straps make of the address and of the two resets' levels. -/
def onLevels (x : BitVec 7 × Bool × Bool) : BusEvent → BitVec 7 × Bool × Bool
  | .resetAsserted => (x.1, true, x.2.2)
  | .resetReleased => (x.1, false, x.2.2)
  | .powerOnAsserted => (x.1, x.2.1, true)
  | .powerOnReleased straps => (strapAddress straps, false, false)
  | .start _ _ => x
  | .byte _ => x

/-- The view keeps the address and the levels that the events leave. -/
theorem BusView.levels_foldl (v : BusView) (events : List BusEvent) :
    ((events.foldl BusView.after v).address, (events.foldl BusView.after v).resetN, (events.foldl BusView.after v).powerOn) =
      events.foldl onLevels (v.address, v.resetN, v.powerOn) := by
  induction events generalizing v with
  | nil => rfl
  | cons e events ih =>
    rw [List.foldl_cons, List.foldl_cons, ih]
    cases e <;> rfl

/-- The bytes written join the frame being taken, where one is. -/
theorem BusView.frame_bytes (v : BusView) (bytes : List Byte) :
    ((bytes.map BusEvent.byte).foldl BusView.after v).frame = v.frame.map (· ++ bytes) := by
  induction bytes generalizing v with
  | nil => cases frame : v.frame <;> simp [frame]
  | cons b bytes ih =>
    rw [List.map_cons, List.foldl_cons, ih]
    cases frame : v.frame <;> simp [BusView.after, frame]

theorem BusView.acknowledges_iff (v : BusView) (a : BitVec 7) :
    v.acknowledges a = decide (v.resetN = false ∧ v.powerOn = false ∧ a = v.address) := by
  simp only [BusView.acknowledges, Bool.decide_and, Bool.decide_eq_false, Bool.and_assoc]

/-- The command at a STOP, after an event that leaves a frame begun or none, and the bytes written since. -/
theorem BusView.commandAtStop_after (v : BusView) (before : List BusEvent) (e : BusEvent) (bytes : List Byte) :
    v.commandAtStop (before ++ e :: bytes.map .byte) =
      (((before.foldl BusView.after v).after e).frame.map (· ++ bytes)).bind decodeFrame := by
  simp only [BusView.commandAtStop, List.foldl_append, List.foldl_cons, BusView.frame_bytes]
  cases (((before.foldl BusView.after v).after e).frame.map (· ++ bytes)) <;> rfl

theorem ServicePort.readOut_length (p : ServicePort) (n : Nat) : (p.readOut n).length = n := by
  simp only [ServicePort.readOut, List.length_append, List.length_take, List.length_replicate]
  omega

theorem ServicePort.readOut_get (p : ServicePort) {n i : Nat} (below : i < n) :
    (p.readOut n)[i]? = some (p.response.getD i 0xFF) := by
  simp only [ServicePort.readOut, List.getElem?_append, List.length_take, List.getD_eq_getElem?_getD]
  by_cases inside : i < p.response.length
  · rw [if_pos (by omega)]
    simp [below, inside]
  · rw [if_neg (by omega)]
    have : i - min n p.response.length < n - p.response.length := by omega
    simp [this, inside]

/-- Settles O5: the last START and what follows it, the resets' commands, and the read-out. -/
theorem busTransactionsAreTaken : Obligations.BusTransactionsAreTaken := by
  unfold Obligations.BusTransactionsAreTaken
  intro s v p n before frame level underReset written leaves
  have levels : ((before.foldl BusView.after v).address, (before.foldl BusView.after v).resetN,
      (before.foldl BusView.after v).powerOn) = level := by
    rw [BusView.levels_foldl]
    refine congrArg (fun g => before.foldl g (v.address, v.resetN, v.powerOn)) (funext fun x => funext fun e => ?_)
    cases e with
    | powerOnReleased straps =>
      simp only [onLevels, strapAddress_eq]
    | _ => rfl
  have unready (e : BusEvent) (dropped : ((before.foldl BusView.after v).after e).frame = none) :
      v.commandAtStop (before ++ e :: written) = none := by
    rw [BusView.commandAtStop_after, dropped]
    rfl
  have acks (a : BitVec 7) : (before.foldl BusView.after v).acknowledges a = decide (¬ underReset ∧ a = level.1) := by
    rw [BusView.acknowledges_iff]
    simp only [underReset, ← levels, not_or, Bool.not_eq_true, and_assoc]
  refine ⟨rfl, fun a => ?_, v.acknowledges_iff, rfl, fun ready => ?_, fun a reading not_taken => ?_, fun e edge => ?_, fun idle => ?_,
    fun straps => ?_, ?_, ?_, p.readOut_length n, fun i below => p.readOut_get below⟩
  · exact (s.busView.acknowledges_iff a).trans (by simp [State.busView])
  · have begun : ((before.foldl BusView.after v).after (.start level.1 false)).frame = some [] := by
      simp only [BusView.after, acks, decide_eq_true ready, Bool.not_false, Bool.and_self, and_true, if_true]
    rw [BusView.commandAtStop_after, begun]
    by_cases nothing : frame = []
    · rw [if_pos nothing, nothing]
      rfl
    · rw [if_neg nothing]
      rfl
  · refine unready _ ?_
    have refused : ((before.foldl BusView.after v).acknowledges a && !reading) = false := by
      rw [acks]
      rcases not_taken with reads | other | reset
      · simp [reads]
      · simp [other]
      · simp [reset]
    simp only [BusView.after, refused, Bool.false_eq_true, if_false]
  · refine unready _ ?_
    rcases edge with rfl | rfl | rfl | ⟨straps, rfl⟩ <;> rfl
  · simp only [BusView.commandAtStop, written, BusView.frame_bytes, idle, Option.map_none]
  · exact ⟨_, exec_powerOnReset straps s, s.powerOn_busView straps⟩
  · exact ⟨_, rfl, s.assertReset_busView⟩
  · exact ⟨_, rfl, s.releaseReset_busView⟩

end Sys2Proof.Machine
end

section
/-! PROOFS. The classification of a rank read (R4 to R10). -/

namespace Sys2Proof.Machine

/-! ### Symbols and their data (R4) -/

/-- A symbol is its four bytes, the first in the highest bits. -/
theorem symbol_bytes (x : BitVec 32) :
    x = x.extractLsb' 24 8 ++ x.extractLsb' 16 8 ++ x.extractLsb' 8 8 ++ x.extractLsb' 0 8 := by
  apply BitVec.eq_of_getLsbD_eq
  intro i below
  simp only [BitVec.getLsbD_append, BitVec.getLsbD_extractLsb']
  interval_cases i <;> simp

/-- The bytes of a data symbol as the data has them. -/
theorem dataOf_get (x : Fin 18 → BitVec 32) {i k : Nat} (low : i < 16) (byte : k < 4) :
    (dataOf x)[4 * i + k]'(by omega) = (x ⟨i, by omega⟩).extractLsb' (8 * (3 - k)) 8 := by
  have place : (4 * i + k) / 4 = i := by omega
  have rest : (4 * i + k) % 4 = k := by omega
  have symbol : Fin.ofNat 18 i = ⟨i, by omega⟩ := Fin.ext (Nat.mod_eq_of_lt (by omega))
  simp only [dataOf, Vector.getElem_ofFn, place, rest, symbol]

/-- The data symbols are those of the line that their data is encoded as. -/
theorem formSymbol_dataOf (x : Fin 18 → BitVec 32) (i : Fin 18) (low : i.val < 16) : formSymbol (.data (dataOf x)) i = x i := by
  simp only [formSymbol, low, dite_true]
  rw [symbol_bytes (x i)]
  exact congrArg₂ _ (congrArg₂ _ (congrArg₂ _ (dataOf_get x (k := 0) low (by omega)) (dataOf_get x (k := 1) low (by omega)))
    (dataOf_get x (k := 2) low (by omega))) (dataOf_get x (k := 3) low (by omega))

theorem dataOf_congr {x y : Fin 18 → BitVec 32} (same : ∀ i : Fin 18, i.val < 16 → x i = y i) : dataOf x = dataOf y := by
  apply Vector.ext
  intro b below
  have low : (Fin.ofNat 18 (b / 4)).val < 16 := by
    simp only [Fin.val_ofNat]
    omega
  simp only [dataOf, Vector.getElem_ofFn, same _ low]

theorem formSymbol_check (d : LineData) (j : Fin 2) : formSymbol (.data d) (Fin.ofNat 18 (16 + j.val)) = checkSymbol d j := by
  have place : (Fin.ofNat 18 (16 + j.val)).val = 16 + j.val := Nat.mod_eq_of_lt (by omega)
  have back : Fin.ofNat 2 (16 + j.val - 16) = j := by
    apply Fin.ext
    simp only [Fin.val_ofNat]
    omega
  simp only [formSymbol, place, back]
  rw [dif_neg (by omega)]

theorem checkAgrees_iff (x : Fin 18 → BitVec 32) (j : Fin 2) :
    checkAgrees x j = true ↔ x (Fin.ofNat 18 (16 + j.val)) = formSymbol (.data (dataOf x)) (Fin.ofNat 18 (16 + j.val)) := by
  rw [formSymbol_check, checkAgrees, beq_iff_eq]

/-- A symbol that is no data symbol is one of the two check symbols. -/
theorem check_place {i : Fin 18} (high : ¬ i.val < 16) : i = 16 ∨ i = 17 := by
  have sixteen : (16 : Fin 18).val = 16 := rfl
  have seventeen : (17 : Fin 18).val = 17 := rfl
  simp only [Fin.ext_iff]
  omega

/-- The symbols are those of a line as it was encoded exactly if the check symbols agree (R6, step 2). -/
theorem checksAgree_iff (x : Fin 18 → BitVec 32) : checksAgree x = true ↔ x = formSymbol (.data (dataOf x)) := by
  rw [checksAgree, Bool.and_eq_true, checkAgrees_iff, checkAgrees_iff]
  constructor
  · rintro ⟨first, second⟩
    funext i
    by_cases low : i.val < 16
    · exact (formSymbol_dataOf x i low).symm
    · rcases check_place low with rfl | rfl
      · exact first
      · exact second
  · intro same
    exact ⟨congrFun same _, congrFun same _⟩

theorem checksAgree_of_form {x : Fin 18 → BitVec 32} {d : LineData} (same : x = formSymbol (.data d)) : checksAgree x = true := by
  rw [checksAgree_iff, same, dataOf_form]

/-! ### One symbol in error (R6, step 3) -/

/-- The symbols differ from the line of a form in one place at most. -/
def NearForm (x : Fin 18 → BitVec 32) (f : LineForm) : Prop := ∃ j : Fin 18, ∀ i : Fin 18, i ≠ j → x i = formSymbol f i

/-- What is restored is the data of a line that the symbols differ from in one place at most. -/
theorem nearForm_of_correctedData {x : Fin 18 → BitVec 32} {d : LineData} (found : correctedData x = some d) :
    NearForm x (.data d) := by
  have first_agrees (agrees : checkAgrees x 0 = true) : NearForm x (.data (dataOf x)) := by
    refine ⟨17, fun i other => ?_⟩
    by_cases low : i.val < 16
    · exact (formSymbol_dataOf x i low).symm
    · obtain rfl := (check_place low).resolve_right other
      exact (checkAgrees_iff x 0).1 agrees
  have second_agrees (agrees : checkAgrees x 1 = true) : NearForm x (.data (dataOf x)) := by
    refine ⟨16, fun i other => ?_⟩
    by_cases low : i.val < 16
    · exact (formSymbol_dataOf x i low).symm
    · obtain rfl := (check_place low).resolve_left other
      exact (checkAgrees_iff x 1).1 agrees
  simp only [correctedData] at found
  split at found
  next agrees =>
    obtain rfl := Option.some.inj found
    rw [Bool.or_eq_true] at agrees
    exact agrees.elim first_agrees second_agrees
  next =>
    obtain ⟨i, -, there⟩ := List.exists_of_findSome?_eq_some found
    obtain ⟨v, agrees, data⟩ := valueSearch_some x _ _ d there
    rw [checksAgree_iff, data] at agrees
    refine ⟨i.castLE (by omega), fun k other => ?_⟩
    rw [← agrees, putSymbol, if_neg other]

/-- Where such a line exists, one is found. -/
theorem correctedData_of_nearForm {x : Fin 18 → BitVec 32} {d : LineData} (near : NearForm x (.data d)) :
    ∃ e, correctedData x = some e := by
  rw [← Option.ne_none_iff_exists']
  intro missing
  obtain ⟨j, same⟩ := near
  simp only [correctedData] at missing
  split at missing
  · cases missing
  next disagrees =>
    by_cases low : j.val < 16
    · have put : putSymbol x j (formSymbol (.data d) j) = formSymbol (.data d) := by
        funext i
        by_cases here : i = j
        · rw [putSymbol, if_pos here, here]
        · rw [putSymbol, if_neg here, same i here]
      have none_here := List.findSome?_eq_none_iff.1 missing ⟨j.val, low⟩ (List.mem_finRange _)
      have never := valueSearch_all x j none_here (formSymbol (.data d) j)
      rw [checksAgree_of_form put] at never
      cases never
    · have data : dataOf x = d := by
        rw [← dataOf_form d]
        exact dataOf_congr fun i low' => same i fun is => low (is ▸ low')
      rw [Bool.or_eq_true, not_or, checkAgrees_iff, checkAgrees_iff, data] at disagrees
      rcases check_place low with rfl | rfl
      · exact disagrees.2 (same _ (by decide))
      · exact disagrees.1 (same _ (by decide))

/-- The four steps of R6, in the words of the statement. -/
theorem classifySymbols_steps (x : Fin 18 → BitVec 32) :
    (NearForm x .poison → classifySymbols x = zeroReading .poison)
      ∧ (¬ NearForm x .poison → ∀ d, x = formSymbol (.data d) → classifySymbols x = { outcome := .clean, data := d })
      ∧ (¬ NearForm x .poison → (∀ d, x ≠ formSymbol (.data d)) →
        ((∃ d, NearForm x (.data d)) → ∃ d, NearForm x (.data d) ∧ classifySymbols x = { outcome := .corrected, data := d })
          ∧ ((∀ d, ¬ NearForm x (.data d)) → classifySymbols x = zeroReading .uncorrectable)) := by
  have poison : nearPoison x = true ↔ NearForm x .poison := nearPoison_iff x
  refine ⟨fun near => ?_, fun far d same => ?_, fun far none_whole => ⟨fun ⟨d, near⟩ => ?_, fun none_near => ?_⟩⟩
  · rw [classifySymbols, if_pos (poison.2 near)]
  · rw [classifySymbols, if_neg (mt poison.1 far), if_pos (checksAgree_of_form same), same, dataOf_form]
  · obtain ⟨e, found⟩ := correctedData_of_nearForm near
    refine ⟨e, nearForm_of_correctedData found, ?_⟩
    rw [classifySymbols, if_neg (mt poison.1 far), if_neg (mt (checksAgree_iff x).1 (none_whole _)), found]
  · have missing : correctedData x = none := by
      rw [Option.eq_none_iff_forall_ne_some]
      exact fun d found => none_near d (nearForm_of_correctedData found)
    rw [classifySymbols, if_neg (mt poison.1 far), if_neg (mt (checksAgree_iff x).1 (none_whole _)), missing]

/-! ### The forms a line is held in (R4 to R6) -/

/-- A line known by one symbol in error, not within a symbol of the poison line, is restored (R4, R6). -/
theorem classify_oneSymbol (d : LineData) (j : Fin 18) {flips : BitVec 32} (wrong : flips ≠ 0) :
    classify (.oneSymbol (.data d) j flips) =
      if nearPoison (lineSymbol (.oneSymbol (.data d) j flips)) then zeroReading .poison
      else { outcome := .corrected, data := d } := by
  simp only [classify, if_neg wrong]

/-- A line known by two symbols in error, not within a symbol of the poison line, is not restored (R4, R6). -/
theorem classify_twoSymbols (d : LineData) {i j : Fin 18} {y z : BitVec 32} (two : ¬ (i = j ∨ y = 0 ∨ z = 0)) :
    classify (.twoSymbols d i j y z) =
      if nearPoison (lineSymbol (.twoSymbols d i j y z)) then zeroReading .poison else zeroReading .uncorrectable := by
  simp only [classify, if_neg two]

theorem lineSymbol_twoSymbols (d : LineData) (i j : Fin 18) (y z : BitVec 32) :
    lineSymbol (.twoSymbols d i j y z) =
      fun n => formSymbol (.data d) n ^^^ (if n = i then y else 0) ^^^ (if n = j then z else 0) := by
  funext n
  simp only [lineSymbol, flipSymbol]
  split <;> split <;> simp

/-! ### Outcomes counted (R10) -/

theorem OutcomeCounters.count_eq (c : OutcomeCounters) (o : ReadOutcome) :
    c.count o =
      { corrected := if o = .corrected then countUp c.corrected else c.corrected
        uncorrectable := if o = .uncorrectable then countUp c.uncorrectable else c.uncorrectable
        poison := if o = .poison then countUp c.poison else c.poison } := by
  cases o <;> simp [OutcomeCounters.count, countUp_eq_satInc]

/-- Settles O10: the symbols, the forms one by one, then the line, the other lines and the counters. -/
theorem rankReadsAreClassified : Obligations.RankReadsAreClassified := by
  unfold Obligations.RankReadsAreClassified
  refine ⟨fun d i b => ⟨?_, ?_⟩, fun d => checkSymbol_not_poison d, fun s l d _ => ?_⟩
  · have byte := formSymbol_byte d ⟨4 * i.val + b.val, by omega⟩
    have place : Fin.ofNat 18 ((4 * i.val + b.val) / 4) = i.castLE (by omega) := by
      apply Fin.ext
      simp only [Fin.val_ofNat, Fin.val_castLE]
      omega
    have rest : (4 * i.val + b.val) % 4 = b.val := by omega
    simp only [place, rest] at byte
    exact byte
  · exact formSymbol_poison _ i.isLt
  · intro held r x near zero steps c counted
    have now : (s.disturbed l d).lineAt l = held := by rw [State.lineAt_disturbed, if_pos rfl]
    have reading : r.2 = classify held := by
      simp only [r, State.sense_eq, now]
    have near_poison : nearPoison x = true ↔ near .poison := nearPoison_iff x
    have whole (is : r.2 = classifySymbols x) : steps := by
      have four := classifySymbols_steps x
      rw [← is] at four
      exact four
    have lines (m : Loc) : r.1.lineAt m = (s.disturbed l d).lineAt m := by
      simp only [r, State.sense_eq]
      cases d <;> rfl
    refine ⟨?_, ?_, fun m other => ?_, ?_⟩
    · cases form : held with
      | intact f =>
        have symbols : x = formSymbol f := by rw [show x = lineSymbol held from rfl, form]; rfl
        have read : r.2 = classify (.intact f) := by rw [reading, form]
        have all : steps := whole (by rw [read, symbols, classifySymbols_form])
        cases f with
        | poison => exact ⟨symbols, all⟩
        | data d => exact ⟨symbols, read, all⟩
      | oneSymbol f j flips =>
        have symbols : x = flipSymbol (formSymbol f) j flips := by rw [show x = lineSymbol held from rfl, form]; rfl
        have read : r.2 = classify (.oneSymbol f j flips) := by rw [reading, form]
        cases f with
        | poison =>
          have close : near .poison := ⟨j, fun i other => by rw [symbols, flipSymbol, if_neg other]⟩
          exact ⟨symbols, fun _ => read, fun far => absurd close far, fun far => absurd close far⟩
        | data d =>
          refine ⟨symbols, fun right => read.trans (if_pos right), fun wrong => ?_⟩
          rw [classify_oneSymbol d j wrong, ← form] at read
          exact ⟨fun close => read.trans (if_pos (near_poison.2 close)), fun far => read.trans (if_neg (mt near_poison.1 far))⟩
      | twoSymbols d i j y z =>
        have symbols : x = lineSymbol (.twoSymbols d i j y z) := by rw [show x = lineSymbol held from rfl, form]
        have read : r.2 = classify (.twoSymbols d i j y z) := by rw [reading, form]
        refine ⟨symbols.trans (lineSymbol_twoSymbols ..), fun fewer => whole ?_, fun apart first second => ?_⟩
        · rw [read, symbols]
          exact if_pos fewer
        · rw [classify_twoSymbols d (by tauto), ← form] at read
          exact ⟨fun close => read.trans (if_pos (near_poison.2 close)), fun far => read.trans (if_neg (mt near_poison.1 far))⟩
      | bytes raw =>
        have symbols : x = lineSymbol (.bytes raw) := by rw [show x = lineSymbol held from rfl, form]
        have read : r.2 = classify (.bytes raw) := by rw [reading, form]
        exact ⟨fun i => by rw [symbols]; rfl, whole (by rw [read, symbols]; rfl)⟩
    · rw [lines, now]
    · rw [lines, State.lineAt_disturbed, if_neg other]
    · have tally : counted = c.count r.2.outcome := (OutcomeCounters.count_eq c _).symm
      rw [tally]
      simp only [r, State.sense_eq]
      rfl

end Sys2Proof.Machine
end
section
/-! PROOFS. The patrol's walk (R130, R131): which rows are passed over, the first position to be read from a position on,
and the cursor past a position. -/

namespace Sys2Proof.Machine

/-! ### Rows passed over (R131) -/

theorem homeRow_eq_iff (a b : LineAddr) : homeRow a = homeRow b ↔ a.val / 128 = b.val / 128 := by
  constructor
  · intro same
    have bank := congrArg (·.bank.val) same
    have row := congrArg (·.row.val) same
    have rank := congrArg (·.rank.val) same
    simp only [homeRow_bank_val, homeRow_row_val, homeRow_rank_val] at bank row rank
    omega
  · intro same
    have bank : a.val / 128 = b.val / 128 := same
    have row : a.val / 2048 = b.val / 2048 := by omega
    have rank : a.val / 134217728 = b.val / 134217728 := by omega
    rw [homeRow, homeRow, bank, row, rank]

/-- The 128 positions of a row, and those of the rows after it. -/
theorem homeRow_lineAt_eq_iff (e : RegionEntry) (p q : Nat) :
    homeRow (e.lineAt p) = homeRow (e.lineAt q) ↔ p / 128 % 4194304 = q / 128 % 4194304 := by
  have value (n : Nat) :
      (e.lineAt n).val = (e.rank.toNat * 134217728 + e.first.toNat * 2048 + n) % 536870912 := rfl
  rw [homeRow_eq_iff, value, value]
  omega

theorem SlotEntry.moving_iff (e : SlotEntry) : e.moving = true ↔ e.phase ≠ .active := by
  rw [moving]
  cases e.phase <;> simp

namespace State

theorem rowPassedOver_row (s : State) (i : RegionIx) {p q : Nat} (row : p / 128 = q / 128) :
    s.rowPassedOver i p = s.rowPassedOver i q := by
  have same : homeRow (s.active[i].lineAt p) = homeRow (s.active[i].lineAt q) := by
    rw [homeRow_lineAt_eq_iff, row]
  rw [rowPassedOver, rowPassedOver, same]

section
variable {s : State} (distinct : s.HomesApart)
include distinct

theorem rowPassedOver_iff (i : RegionIx) (q : Nat) :
    s.rowPassedOver i q = true ↔ (s.active[i]).policy = .spared
      ∧ ∃ n : SlotIx, ∃ e ∈ s.slots[n], e.home = homeRow ((s.active[i]).lineAt q) ∧ e.phase ≠ .active := by
  rw [rowPassedOver, Bool.and_eq_true, decide_eq_true_iff]
  refine and_congr_right fun _ => ?_
  by_cases used : ∃ n : SlotIx, ∃ e ∈ s.slots[n], e.home = homeRow ((s.active[i]).lineAt q)
  · obtain ⟨n, e, there, home⟩ := used
    rw [entryHomed_of distinct there home]
    refine e.moving_iff.trans ⟨fun moves => ⟨n, e, there, home, moves⟩, ?_⟩
    rintro ⟨m, f, here, same, moves⟩
    obtain rfl := distinct m n f here e there (same.trans home.symm)
    cases here.symm.trans there
    exact moves
  · rw [entryHomed_none fun n e there home => used ⟨n, e, there, home⟩]
    exact ⟨fun h => by simp at h, fun ⟨n, e, there, home, _⟩ => absurd ⟨n, e, there, home⟩ used⟩

/-- The two tests of R131 together. -/
theorem toBeRead_iff (i : RegionIx) (q : Nat) :
    s.toBeRead i q ↔ s.regionPassedOver i = false ∧ s.rowPassedOver i q = false := by
  refine and_congr ?_ ?_
  · rw [regionPassedOver]
    by_cases mirrored : (s.active[i]).policy = .mirrored
    · rw [decide_eq_true mirrored, Bool.true_and]
      cases s.mirrors[i] with
      | none => simp [mirrored, -Fin.getElem_fin]
      | some m => rcases m with ⟨_ | _ | _ | _ | _, _⟩ <;> simp [mirrored, MirrorState.rebuilding, -Fin.getElem_fin]
    · simp [mirrored, -Fin.getElem_fin]
  · rw [← Bool.not_eq_true, rowPassedOver_iff distinct]
    exact ⟨fun still ⟨spared, n, e, there, home, moves⟩ => moves (still spared n e there home),
      fun still spared n e there home => by_contra fun moves => still ⟨spared, n, e, there, home, moves⟩⟩

/-- Each row passed over is the home of a slot of its own, so that a run of them is at most 64 long. -/
theorem rows_passedOver_le {i : RegionIx} {p q : Nat} (passed : ∀ n, q ≤ n → n < p → s.rowPassedOver i n = true) :
    p / 128 ≤ q / 128 + 64 := by
  by_contra long
  have each (k : Fin 65) : ∃ n : SlotIx, ∃ e ∈ s.slots[n], e.home = homeRow ((s.active[i]).lineAt (q + 128 * k)) := by
    obtain ⟨_, n, e, there, home, _⟩ :=
      (rowPassedOver_iff distinct i _).1 (passed (q + 128 * k) (Nat.le_add_right ..) (by omega))
    exact ⟨n, e, there, home⟩
  choose slot entry there home using each
  obtain ⟨a, b, apart, same⟩ := Fintype.exists_ne_map_eq_of_card_lt slot (by simp)
  have entries : entry a = entry b := Option.some_inj.1 ((there a).symm.trans ((congrArg (s.slots[·]) same).trans (there b)))
  have rows := (homeRow_lineAt_eq_iff ..).1 ((home a).symm.trans ((congrArg (·.home) entries).trans (home b)))
  exact apart (Fin.ext (by omega))

end

/-! ### The first position to be read of a region -/

theorem readableFrom_none {s : State} {i : RegionIx} (n : Nat) {q : Nat}
    (passed : ∀ p, q ≤ p → p < (s.active[i]).positions → s.rowPassedOver i p = true) : s.readableFrom i n q = none := by
  induction n generalizing q with
  | zero => rfl
  | succ n ih =>
    rw [readableFrom]
    by_cases past : (s.active[i]).positions ≤ q
    · exact if_pos past
    · rw [if_neg past, if_pos (passed q le_rfl (by omega))]
      exact ih fun p beyond => passed p (by omega)

/-- The walk that tests a row at a time stops at the first position whose row is not passed over. -/
theorem readableFrom_some {s : State} {i : RegionIx} {p : Nat} (inside : p < (s.active[i]).positions)
    (read : s.rowPassedOver i p = false) (n : Nat) {q : Nat} (rows : p / 128 < q / 128 + n) (before : q ≤ p)
    (passed : ∀ m, q ≤ m → m < p → s.rowPassedOver i m = true) : s.readableFrom i n q = some p := by
  induction n generalizing q with
  | zero => omega
  | succ n ih =>
    rw [readableFrom, if_neg (by omega)]
    cases here : s.rowPassedOver i q with
    | true =>
      have later : q / 128 ≠ p / 128 := fun row => by
        rw [s.rowPassedOver_row i row, read] at here
        cases here
      rw [if_pos rfl]
      exact ih (by omega) (by omega) fun m beyond => passed m (by omega)
    | false =>
      have same : q = p := by
        by_contra differ
        rw [passed q le_rfl (by omega)] at here
        cases here
      rw [if_neg (by simp), same]

section
variable {s : State} (distinct : s.HomesApart)
include distinct

theorem readableIn_none {i : RegionIx} {q : Nat} (none : ∀ p, q ≤ p → p < (s.active[i]).positions → ¬ s.toBeRead i p) :
    s.readableIn i q = .none := by
  rw [readableIn]
  cases region : s.regionPassedOver i with
  | true => rfl
  | false =>
    refine readableFrom_none 66 fun p beyond inside => ?_
    simpa [toBeRead_iff distinct, region] using none p beyond inside

theorem readableIn_some {i : RegionIx} {q p : Nat} (before : q ≤ p) (inside : p < (s.active[i]).positions)
    (read : s.toBeRead i p) (first : ∀ m, q ≤ m → m < p → ¬ s.toBeRead i m) : s.readableIn i q = some p := by
  obtain ⟨region, row⟩ := (toBeRead_iff distinct i p).1 read
  have passed (m : Nat) (from_q : q ≤ m) (to_p : m < p) : s.rowPassedOver i m = true := by
    simpa [toBeRead_iff distinct, region] using first m from_q to_p
  have few := rows_passedOver_le distinct passed
  rw [readableIn, region]
  exact readableFrom_some inside row 66 (by omega) before passed

/-! ### The walk over the regions -/

section
variable {ahead : RegionIx → Nat → Prop} {froms : List (RegionIx × Nat)}
  (walk : ∀ j p, ahead j p ↔ ∃ x ∈ froms, x.1 = j ∧ x.2 ≤ p)
include walk

theorem seek_none (none : s.noneToRead ahead) : s.seek froms = .none :=
  List.findSome?_eq_none_iff.2 fun x there => by
    rw [readableIn_none distinct fun p beyond => none x.1 p ((walk x.1 p).2 ⟨x, there, rfl, beyond⟩)]
    rfl

theorem seek_some (ascending : froms.Pairwise fun x y => x.1 < y.1) {j : RegionIx} {p : Nat}
    (first : s.firstRead ahead j p) : s.seek froms = some (j, p) := by
  obtain ⟨here, inside, read, before⟩ := first
  obtain ⟨x, there, rfl, from_x⟩ := (walk j p).1 here
  obtain ⟨l, r, rfl⟩ := List.append_of_mem there
  refine List.findSome?_eq_some_iff.2 ⟨l, x, r, rfl, ?_, fun y earlier => ?_⟩
  · rw [readableIn_some distinct from_x inside read fun m beyond below =>
      before x.1 m ((walk x.1 m).2 ⟨x, there, rfl, beyond⟩) (below.trans inside) (.inr ⟨rfl, below⟩)]
    rfl
  · have lower : y.1 < x.1 := (List.pairwise_append.1 ascending).2.2 y earlier x List.mem_cons_self
    rw [readableIn_none distinct fun m beyond within =>
      before y.1 m ((walk y.1 m).2 ⟨y, List.mem_append_left _ earlier, rfl, beyond⟩) within (.inl lower)]
    rfl

end

end

/-! ### The regions of the two walks (R130) -/

theorem mem_patrolledRegions (s : State) (j : RegionIx) : j ∈ patrolledRegions s.active ↔ s.patrolled j := by
  simp only [patrolledRegions, List.mem_filter, mem_regionIxs, true_and, Bool.and_eq_true]
  rfl

theorem patrolledRegions_ascend (t : RegionTable) : (patrolledRegions t).Pairwise (· < ·) := by
  have all : regionIxs.Pairwise (· < ·) := by decide
  exact all.filter _

theorem forwardFrom_ahead (s : State) (i : RegionIx) (q : Nat) (j : RegionIx) (p : Nat) :
    s.aheadOf i q j p ↔ ∃ x ∈ s.forwardFrom i q, x.1 = j ∧ x.2 ≤ p := by
  simp only [forwardFrom, List.mem_cons, List.mem_map, List.mem_filter, mem_patrolledRegions, decide_eq_true_iff]
  constructor
  · rintro (⟨rfl, beyond⟩ | ⟨above, patrolled⟩)
    · exact ⟨_, .inl rfl, rfl, beyond⟩
    · exact ⟨_, .inr ⟨j, ⟨patrolled, above⟩, rfl⟩, rfl, Nat.zero_le p⟩
  · rintro ⟨x, rfl | ⟨n, ⟨patrolled, above⟩, rfl⟩, rfl, beyond⟩
    · exact .inl ⟨rfl, beyond⟩
    · exact .inr ⟨above, patrolled⟩

theorem forwardFrom_ascend (s : State) (i : RegionIx) (q : Nat) :
    (s.forwardFrom i q).Pairwise fun x y => x.1 < y.1 := by
  refine List.pairwise_cons.2 ⟨fun x there => ?_, List.pairwise_map.2 ((patrolledRegions_ascend s.active).filter _)⟩
  obtain ⟨n, above, rfl⟩ := List.mem_map.1 there
  exact of_decide_eq_true (List.mem_filter.1 above).2

theorem fromFirst_ahead (s : State) (j : RegionIx) (p : Nat) :
    s.patrolled j ↔ ∃ x ∈ s.fromFirst, x.1 = j ∧ x.2 ≤ p := by
  simp only [fromFirst, List.mem_map, mem_patrolledRegions]
  constructor
  · exact fun patrolled => ⟨_, ⟨j, patrolled, rfl⟩, rfl, Nat.zero_le p⟩
  · rintro ⟨x, ⟨n, patrolled, rfl⟩, rfl, -⟩
    exact patrolled

theorem fromFirst_ascend (s : State) : s.fromFirst.Pairwise fun x y => x.1 < y.1 :=
  List.pairwise_map.2 (patrolledRegions_ascend s.active)

/-! ### The cursor past a position (R130) -/

theorem patrolledRegions_find_some {s : State} {test : RegionIx → Bool} {j : RegionIx} (here : s.patrolled j)
    (meets : test j = true) (first : ∀ n : RegionIx, test n = true → n < j → ¬ s.patrolled n) :
    (patrolledRegions s.active).find? test = some j := by
  rw [patrolledRegions, List.find?_filter, find_regionIxs_eq_some_iff]
  refine ⟨by simpa [meets, patrolled] using here, fun n below => ?_⟩
  simp only [Bool.and_eq_true, decide_eq_false_iff_not]
  exact fun ⟨patrolled, met⟩ => first n met below patrolled

theorem lowestCursor_of {s : State} {j : RegionIx} (here : s.patrolled j)
    (first : ∀ n : RegionIx, n < j → ¬ s.patrolled n) : s.lowestCursor = some (j, 0) := by
  have head : (patrolledRegions s.active).head? = some j := by
    rw [patrolledRegions, List.head?_filter, find_regionIxs_eq_some_iff]
    refine ⟨by simpa [patrolled] using here, fun n below => ?_⟩
    rw [← Bool.not_eq_true, Bool.and_eq_true]
    exact first n below
  rw [lowestCursor, fromFirst, List.head?_map, head]
  rfl

theorem advance_eq {s : State} {i : RegionIx} {q : Nat} {cursor : Option (RegionIx × Nat)} {wraps : Bool}
    (past : s.cursorPast i q cursor wraps) : s.advance i q = (cursor, wraps) := by
  rw [cursorPast] at past
  rw [advance]
  by_cases within : q + 1 < (s.active[i]).positions
  · rw [if_pos within] at past ⊢
    rw [past.1, past.2]
  · rw [if_neg within] at past ⊢
    rcases past with ⟨j, above, patrolled, first, rfl, rfl⟩ | ⟨top, rfl, j, patrolled, first, rfl⟩
    · rw [patrolledRegions_find_some patrolled (decide_eq_true above)
        fun n higher below => first n (of_decide_eq_true higher) below]
    · have none_above : (patrolledRegions s.active).find? (fun j => decide (i < j)) = none :=
        List.find?_eq_none.2 fun n there above =>
          top n (of_decide_eq_true above) ((s.mem_patrolledRegions n).1 there)
      rw [none_above, lowestCursor_of patrolled first]

end State

end Sys2Proof.Machine
end
section
/-! PROOFS. The patrol timer's expiries (R128 to R131, R133) and the end of a pass (R130, R140). -/

namespace Sys2Proof.Machine

namespace State

/-! ### The step begun at a position (R131, R133) -/

theorem patrolPlan_eq {s : State} (distinct : s.HomesApart) {i : RegionIx} {la : LineAddr} {treat : PatrolTreat}
    {turn : PatrolTurn} {l : Loc} (lookup : s.patrolLookup i la treat turn l) :
    s.patrolPlan i la = some (treat, turn, l) := by
  rw [patrolPlan]
  rcases lookup with ⟨policy, rfl, rfl, rfl⟩ | ⟨policy, rfl, rfl, place⟩ | ⟨policy, m, record, place⟩
  · simp only [policy]
  · simp only [policy]
    rcases place with ⟨unused, rfl⟩ | ⟨n, e, there, home, rfl⟩
    · rw [entryHomed_none unused]
    · rw [entryHomed_of distinct there home]
      simp only [SlotEntry.atCol_current e home]
  · have found : s.mirrors[i] = some m := record
    simp only [policy, found]
    rcases place with ⟨state, rfl, rfl, rfl⟩ | ⟨state, rfl, rfl, rfl⟩ | ⟨state, rfl, rfl, rfl⟩ <;> simp only [state] <;> rfl

theorem startPatrol_eq {s : State} {i : RegionIx} {q : Nat} {treat : PatrolTreat} {turn : PatrolTurn} {l : Loc}
    (plan : s.patrolPlan i (s.active[i].lineAt q) = some (treat, turn, l)) (cursor : Option (RegionIx × Nat)) :
    (s.setCursor cursor).startPatrol i q = s.patrolBegun i q treat turn l cursor := by
  have same : (s.setCursor cursor).patrolPlan i ((s.setCursor cursor).active[i].lineAt q) = some (treat, turn, l) := plan
  simp only [startPatrol, same]
  rfl

theorem endPass_eq (s : State) : s.endPass = s.passEnded := by
  have decayed : decay s.tracker
      = (s.tracker.map fun e => { e with count := e.count / 2 }).filter fun e => decide (0 < e.count) := by
    simp only [decay, Nat.pos_iff_ne_zero]
  rw [passEnded, ← decayed, countUp_eq_satInc]
  rfl

/-- A position chosen: the pass ends at a wrap, and the step begins. -/
theorem chooseAt_eq {s : State} {i : RegionIx} {q : Nat} {treat : PatrolTreat} {turn : PatrolTurn} {l : Loc}
    (plan : s.patrolPlan i (s.active[i].lineAt q) = some (treat, turn, l)) {cursor : Option (RegionIx × Nat)}
    {wraps : Bool} (past : s.cursorPast i q cursor wraps) :
    s.chooseAt i q = (if wraps then s.passEnded else s).patrolBegun i q treat turn l cursor := by
  simp only [chooseAt, advance_eq past, endPass_eq]
  cases wraps with
  | false => exact startPatrol_eq plan cursor
  | true =>
    have ended : s.passEnded.patrolPlan i (s.passEnded.active[i].lineAt q) = some (treat, turn, l) := plan
    exact startPatrol_eq ended cursor

/-! ### An expiry by where the first position to be read lies (R131) -/

section
variable {s : State} (distinct : s.HomesApart) {i : RegionIx} {q : Nat}
include distinct

theorem takeExpiry_ahead {j : RegionIx} {p : Nat} (first : s.firstRead (s.aheadOf i q) j p) :
    s.takeExpiry i q = s.chooseAt j p := by
  rw [takeExpiry, seek_some distinct (s.forwardFrom_ahead i q) (s.forwardFrom_ascend i q) first]

theorem takeExpiry_around {j : RegionIx} {p : Nat} (ahead : s.noneToRead (s.aheadOf i q))
    (first : s.firstRead (fun j _ => s.patrolled j) j p) : s.takeExpiry i q = s.passEnded.chooseAt j p := by
  have again : s.passEnded.seek s.passEnded.fromFirst = some (j, p) :=
    seek_some (s := s.passEnded) distinct s.passEnded.fromFirst_ahead s.passEnded.fromFirst_ascend first
  simp only [takeExpiry, seek_none distinct (s.forwardFrom_ahead i q) ahead, endPass_eq, again]

theorem takeExpiry_nowhere (ahead : s.noneToRead (s.aheadOf i q)) (around : s.noneToRead fun j _ => s.patrolled j) :
    s.takeExpiry i q = s.passEnded.setCursor s.lowestCursor := by
  have again : s.passEnded.seek s.passEnded.fromFirst = none :=
    seek_none (s := s.passEnded) distinct s.passEnded.fromFirst_ahead around
  simp only [takeExpiry, seek_none distinct (s.forwardFrom_ahead i q) ahead, endPass_eq, again]
  rfl

end

/-! ### What an expiry does (R128, R129) -/

section
variable {s : State} (live : s.resetN = false)
include live

theorem expiry_live : exec .patrolTimerExpiry s = .next s.patrolExpiry := by
  change s.live State.patrolExpiry = _
  exact next_of_live live

variable (running : s.patrol.interval ≠ 0)
include running

theorem expiry_skipped (busy : s.quiesce ≠ .run ∨ s.patrol.step ≠ none) :
    exec .patrolTimerExpiry s = .next { s with counters := { s.counters with
      skippedExpiries := countUp s.counters.skippedExpiries } } := by
  have skipped : s.quiesce ≠ .run ∨ s.patrol.step.isSome = true := by
    rwa [Option.isSome_iff_ne_none]
  rw [expiry_live live, patrolExpiry, if_neg running, if_pos skipped, countUp_eq_satInc]
  rfl

variable (run : s.quiesce = .run) (rest : s.patrol.step = none)
include run rest

theorem expiry_idle (cursor : s.patrol.cursor = none) : exec .patrolTimerExpiry s = .next s := by
  have at_rest : ¬ (s.quiesce ≠ .run ∨ s.patrol.step.isSome = true) := by simp [run, rest]
  simp only [expiry_live live, patrolExpiry, if_neg running, if_neg at_rest, cursor]

theorem expiry_at {i : RegionIx} {q : Nat} (cursor : s.patrol.cursor = some (i, q)) :
    exec .patrolTimerExpiry s = .next (s.takeExpiry i q) := by
  have at_rest : ¬ (s.quiesce ≠ .run ∨ s.patrol.step.isSome = true) := by simp [run, rest]
  simp only [expiry_live live, patrolExpiry, if_neg running, if_neg at_rest, cursor]

end

end State

/-- Settles O33: an expiry in its three ways; the walk ahead of the cursor stops at the first position to be read. -/
theorem patrolExpiriesTakeSteps : Obligations.PatrolExpiriesTakeSteps := by
  unfold Obligations.PatrolExpiriesTakeSteps
  refine fun s live running => ⟨s.expiry_skipped live running, fun run rest idle => ?idle,
    fun i j q p treat turn l cursor run rest place distinct first lookup past => ?step⟩
  case idle => exact s.expiry_idle live running run rest idle
  case step =>
    rw [s.expiry_at live running run rest place, State.takeExpiry_ahead distinct first,
      State.chooseAt_eq (State.patrolPlan_eq distinct lookup) past]
    rfl

/-- Settles O34: the wrap at the last position, the walk on from the lowest patrolled region, and nothing to read
anywhere. -/
theorem patrolPassEnds : Obligations.PatrolPassEnds := by
  unfold Obligations.PatrolPassEnds
  intro i q s live running run rest place distinct around
  rw [s.expiry_at live running run rest place]
  refine ⟨fun j p treat turn l cursor lookup => ⟨fun first past => ?last, fun ahead first past => ?wrapped⟩,
    fun j patrolled lowest ahead nowhere => ?nothing⟩
  case last =>
    rw [State.takeExpiry_ahead distinct first, State.chooseAt_eq (State.patrolPlan_eq distinct lookup) past]
    rfl
  case wrapped =>
    have plan : s.passEnded.patrolPlan j (s.passEnded.active[j].lineAt p) = some (treat, turn, l) :=
      State.patrolPlan_eq distinct lookup
    have moved : s.passEnded.cursorPast j p cursor false := past
    rw [State.takeExpiry_around distinct ahead first, State.chooseAt_eq plan moved]
    rfl
  case nothing =>
    rw [State.takeExpiry_nowhere distinct ahead nowhere, State.lowestCursor_of patrolled lowest]
    rfl

end Sys2Proof.Machine
end
section
/-! PROOFS. COMMIT_REGIONS (R22 to R30, R132): the answer by the first check that fails, and what a table that passes all
five checks leaves. -/

namespace Sys2Proof.Machine

/-! ### The checks, index by index -/

/-- The lowest index that meets a property is what a search for a test of it finds. -/
theorem find_regionIxs_of_lowest {test : RegionIx → Bool} {P : RegionIx → Prop} (tests : ∀ i, test i = true ↔ P i)
    {i : RegionIx} (lowest : P i ∧ ∀ j : RegionIx, j < i → ¬ P j) : regionIxs.find? test = some i :=
  (find_regionIxs_eq_some_iff test i).2
    ⟨(tests i).2 lowest.1, fun j below => by rw [← Bool.not_eq_true, tests]; exact lowest.2 j below⟩

theorem find_regionIxs_of_nowhere {test : RegionIx → Bool} {P : RegionIx → Prop} (tests : ∀ i, test i = true ↔ P i)
    (nowhere : ∀ i, ¬ P i) : regionIxs.find? test = none :=
  (find_regionIxs_eq_none_iff test).2 fun i => by rw [← Bool.not_eq_true, tests]; exact nowhere i

theorem RegionEntry.badRange_iff (e : RegionEntry) : e.badRange = true ↔ ¬ e.InRange := by
  rw [← Bool.not_eq_false, e.badRange_eq_false_iff]

/-- The index overlaps another entry of its rank, or a shadow range (R24). -/
def overlapsAt (t : RegionTable) (i : RegionIx) : Prop :=
  (t[i]).valid = true ∧ ∃ j : RegionIx, (t[j]).valid = true ∧ ¬ (t[i]).Apart t[j]
    ∧ ((i ≠ j ∧ (t[i]).rank = (t[j]).rank) ∨ ((t[j]).policy = .mirrored ∧ (t[i]).rank.toNat = (t[j]).rank.toNat + 1))

theorem overlapFails_iff (t : RegionTable) (i : RegionIx) : overlapFails t i = true ↔ overlapsAt t i := by
  rw [← Bool.not_eq_false, overlapFails_eq_false_iff]
  constructor
  · intro fails
    by_contra apart
    exact fails fun j valid other related => by_contra fun meets => apart ⟨valid, j, other, meets, related⟩
  · rintro ⟨valid, j, other, meets, related⟩ apart
    exact meets (apart j valid other related)

theorem not_overlapsAt {t : RegionTable} (sound : tableSound t) (i : RegionIx) : ¬ overlapsAt t i :=
  fun ⟨valid, j, other, meets, related⟩ => meets (sound.2 i j valid other related)

/-- A rank keeps its POOL set: no row number is past the last stripe there can be. -/
theorem poolChanged_iff (t u : RegionTable) (k : RankNo) :
    poolChanged t u k = true ↔ ¬ ∀ n, poolStripe t k n ↔ poolStripe u k n := by
  rw [← Bool.not_eq_false, not_iff_not]
  refine ⟨poolStripe_congr, fun same => (poolChanged_eq_false_iff t u k).2 fun n => ?_⟩
  have beyond (t : RegionTable) (far : 65536 ≤ n) : inPool t k n = false := by
    rw [← Bool.not_eq_true, inPool_iff]
    rintro ⟨e, -, -, last⟩
    have := e.last.isLt
    omega
  by_cases row : n < 65536
  · rw [Bool.eq_iff_iff]
    exact (inPool_iff_poolStripe t k ⟨n, row⟩).trans ((same _).trans (inPool_iff_poolStripe u k ⟨n, row⟩).symm)
  · rw [beyond t (by omega), beyond u (by omega)]

theorem State.poolIndexFails_iff_stripes (s : State) (i : RegionIx) :
    s.poolIndexFails i = true ↔ ∃ k : RankNo, (¬ ∀ n, poolStripe s.active k n ↔ poolStripe s.staged k n)
      ∧ (∃ n : SlotIx, ∃ e ∈ s.slots[n], e.home.rank = k)
      ∧ ((s.active[i]).poolOf k = true ∨ (s.staged[i]).poolOf k = true) ∧ (s.active[i]).sameExtent s.staged[i] = false := by
  simp only [s.poolIndexFails_iff, s.poolFails_iff, poolChanged_iff, and_assoc]

theorem State.rebuildFails_iff (s : State) (i : RegionIx) :
    s.rebuildFails i = true ↔ s.regionRebuilding i = true ∧ ¬ sameMirrored s.active[i] s.staged[i] := by
  rw [State.rebuildFails, Bool.and_eq_true, s.rebuildingAt_eq, s.regionRebuilding_eq, Bool.not_eq_true', ← Bool.not_eq_true,
    RegionEntry.sameMirror_iff, sameMirrored_comm]

theorem State.createsMirror_iff_sameMirrored (s : State) (i : RegionIx) :
    s.createsMirror i = true
      ↔ (s.staged[i]).valid = true ∧ (s.staged[i]).policy = .mirrored ∧ ¬ sameMirrored s.active[i] s.staged[i] := by
  rw [s.createsMirror_iff, RegionEntry.isMirror_iff, ← Bool.not_eq_true, RegionEntry.sameMirror_iff, and_assoc]

/-- The index a containment failure names: the lowest entry over one of the rows. -/
theorem State.lowestContaining_eq {s : State} {rows : List PhysRow} {i : RegionIx}
    (here : ∃ r ∈ rows, (s.active[i]).covers r.rank r.row = true)
    (lowest : ∀ j : RegionIx, j < i → ¬ ∃ r ∈ rows, (s.active[j]).covers r.rank r.row = true) :
    s.lowestContaining rows = i := by
  have first : (regionIxs.find? fun i => rows.any fun r => decide (coveringEntry s.active r.rank r.row = some i)) = some i := by
    refine (find_regionIxs_eq_some_iff _ i).2 ⟨List.any_eq_true.2 ?_, fun j below => ?_⟩
    · obtain ⟨r, there, cover⟩ := here
      refine ⟨r, there, decide_eq_true ((find_regionIxs_eq_some_iff _ i).2 ⟨cover, fun j below => ?_⟩)⟩
      rw [← Bool.not_eq_true]
      exact fun also => lowest j below ⟨r, there, also⟩
    · rw [← Bool.not_eq_true, List.any_eq_true]
      rintro ⟨r, there, first⟩
      exact lowest j below ⟨r, there, ((find_regionIxs_eq_some_iff _ j).1 (of_decide_eq_true first)).1⟩
  rw [State.lowestContaining, first]

/-! ### The answer of a commit (R22) -/

theorem exec_commitRegions_refused {s : State} (live : s.resetN = false) {why : PortReason} {i : RegionIx}
    (fails : s.commitFailure = some (why, i)) :
    exec .commitRegions s = .next (s.answering 0x06 [why.code, BitVec.ofNat 8 i.val]) := by
  have answer : s.commitRegions = s.respond .refused [why.code, byte1 i.val] := by simp only [State.commitRegions, fails]
  change s.atPort State.commitRegions = _
  exact (next_of_live live).trans (congrArg Host.Outcome.next answer)

theorem exec_commitRegions_ok {s : State} (live : s.resetN = false) (passes : s.commitFailure = none) :
    exec .commitRegions s = .next (s.committed.ok []) := by
  have answer : s.commitRegions = s.committed.ok [] := by simp only [State.commitRegions, passes]
  change s.atPort State.commitRegions = _
  exact (next_of_live live).trans (congrArg Host.Outcome.next answer)

section
variable {s : State} {i : RegionIx}

theorem commitFailure_range (fails : (regionIxs.find? fun i => s.staged[i].badRange) = some i) :
    s.commitFailure = some (.range, i) := by
  simp only [State.commitFailure, fails]

theorem commitFailure_overlap (range : (regionIxs.find? fun i => s.staged[i].badRange) = none)
    (fails : (regionIxs.find? fun i => overlapFails s.staged i) = some i) : s.commitFailure = some (.overlap, i) := by
  simp only [State.commitFailure, range, fails]

section
variable (range : (regionIxs.find? fun i => s.staged[i].badRange) = none)
  (overlap : (regionIxs.find? fun i => overlapFails s.staged i) = none)
include range overlap

theorem commitFailure_uncontained (fails : s.uncontainedRows ≠ []) :
    s.commitFailure = some (.inUse, s.lowestContaining s.uncontainedRows) := by
  simp only [State.commitFailure, range, overlap, if_pos fails]

variable (contained : s.uncontainedRows = [])
include contained

theorem commitFailure_pool (fails : regionIxs.find? s.poolIndexFails = some i) : s.commitFailure = some (.inUse, i) := by
  simp only [State.commitFailure, range, overlap, contained, ne_eq, not_true_eq_false, if_false, fails]

theorem commitFailure_rebuild (pools : regionIxs.find? s.poolIndexFails = none)
    (fails : regionIxs.find? s.rebuildFails = some i) : s.commitFailure = some (.inUse, i) := by
  simp only [State.commitFailure, range, overlap, contained, ne_eq, not_true_eq_false, if_false, pools, fails]

theorem commitFailure_none (pools : regionIxs.find? s.poolIndexFails = none)
    (rebuilds : regionIxs.find? s.rebuildFails = none) : s.commitFailure = none := by
  simp only [State.commitFailure, range, overlap, contained, ne_eq, not_true_eq_false, if_false, pools, rebuilds]

end

end

/-! ### What a commit leaves (R28 to R30, R132) -/

theorem committed_mirror (s : State) (i : RegionIx) : s.committed.mirrors[i] = s.settledMirror i := by
  simp [State.committed]

theorem settledMirror_created {s : State} {i : RegionIx} (creates : s.createsMirror i = true) :
    s.settledMirror i = some { state := .rebuildShadow, primaryCount := 0, shadowCount := 0, born := s.commits + 1 } :=
  if_pos creates

theorem settledMirror_kept {s : State} {i : RegionIx} (same : sameMirrored s.active[i] s.staged[i]) :
    s.settledMirror i = s.mirrors[i] := by
  have old : s.createsMirror i ≠ true := fun creates => ((s.createsMirror_iff_sameMirrored i).1 creates).2.2 same
  have mirror : (s.staged[i]).isMirror = true := (RegionEntry.isMirror_iff _).2 ⟨same.2.1, same.2.2.2.1⟩
  rw [State.settledMirror, if_neg old, if_pos mirror]

theorem settledMirror_dropped {s : State} {i : RegionIx}
    (other : ¬ ((s.staged[i]).valid = true ∧ (s.staged[i]).policy = .mirrored)) : s.settledMirror i = none := by
  have plain : (s.staged[i]).isMirror ≠ true := fun mirror => other ((RegionEntry.isMirror_iff _).1 mirror)
  have old : s.createsMirror i ≠ true := fun creates => plain ((s.createsMirror_iff i).1 creates).1
  rw [State.settledMirror, if_neg old, if_neg plain]

theorem placedCursor_idle {s : State} (idle : s.patrol.cursor = none) : s.placedCursor = s.committed.lowestCursor := by
  simp only [State.placedCursor, idle, State.lowestCursor, State.fromFirst, List.head?_map]
  rfl

theorem placedCursor_stays {s : State} {i : RegionIx} {q : Nat} (cursor : s.patrol.cursor = some (i, q))
    (patrolled : s.committed.patrolled i) (same : (s.active[i]).sameExtent s.staged[i] = true) :
    s.placedCursor = some (i, q) := by
  have there : (patrolledRegions s.staged).contains i = true :=
    List.contains_iff_mem.2 ((s.committed.mem_patrolledRegions i).2 patrolled)
  simp only [State.placedCursor, cursor, same, there, Bool.and_self, if_true]

section
variable {s : State} {i : RegionIx} {q : Nat} (cursor : s.patrol.cursor = some (i, q))
  (moves : ¬ (s.committed.patrolled i ∧ (s.active[i]).sameExtent s.staged[i] = true))
include cursor moves

theorem placedCursor_moves : s.placedCursor =
    (((patrolledRegions s.staged).find? fun j => decide (i < j)).map fun j => (j, 0)).or s.committed.lowestCursor := by
  have leaves : ((s.active[i]).sameExtent s.staged[i] && (patrolledRegions s.staged).contains i) ≠ true := by
    rw [ne_eq, Bool.and_eq_true, List.contains_iff_mem]
    exact fun ⟨same, there⟩ => moves ⟨(s.committed.mem_patrolledRegions i).1 there, same⟩
  simp only [State.placedCursor, cursor, if_neg leaves, State.lowestCursor, State.fromFirst, List.head?_map]
  cases (patrolledRegions s.staged).find? fun j => decide (i < j) <;> rfl

theorem placedCursor_next {j : RegionIx} (patrolled : s.committed.patrolled j) (above : i < j)
    (first : ∀ n, i < n → n < j → ¬ s.committed.patrolled n) : s.placedCursor = some (j, 0) := by
  have found : (patrolledRegions s.staged).find? (fun j => decide (i < j)) = some j :=
    State.patrolledRegions_find_some (s := s.committed) patrolled (decide_eq_true above)
      fun n higher below => first n (of_decide_eq_true higher) below
  rw [placedCursor_moves cursor moves, found]
  rfl

theorem placedCursor_lowest (top : ∀ n, i < n → ¬ s.committed.patrolled n) :
    s.placedCursor = s.committed.lowestCursor := by
  have found : (patrolledRegions s.staged).find? (fun j => decide (i < j)) = none :=
    List.find?_eq_none.2 fun n there above =>
      top n (of_decide_eq_true above) ((s.committed.mem_patrolledRegions n).1 there)
  rw [placedCursor_moves cursor moves, found]
  rfl

end

theorem lowestCursor_none {s : State} (nowhere : ∀ i, ¬ s.patrolled i) : s.lowestCursor = none := by
  have empty : patrolledRegions s.active = [] :=
    List.eq_nil_iff_forall_not_mem.2 fun i there => nowhere i ((s.mem_patrolledRegions i).1 there)
  rw [State.lowestCursor, State.fromFirst, empty]
  rfl

/-- With no patrolled region the cursor is idle. -/
theorem placedCursor_nowhere {s : State} (nowhere : ∀ i, ¬ s.committed.patrolled i) : s.placedCursor = none := by
  rw [← lowestCursor_none nowhere]
  rcases cursor : s.patrol.cursor with _ | ⟨i, q⟩
  · exact placedCursor_idle cursor
  · exact placedCursor_lowest cursor (fun stays => nowhere i stays.1) fun n _ => nowhere n

/-- Settles O49: the five checks in their order, each by its lowest index, and the parts of a commit that passes. -/
theorem commitIsWholeOrNothing : Obligations.CommitIsWholeOrNothing := by
  unfold Obligations.CommitIsWholeOrNothing
  intro s live refused lowest overlaps covers within fails contained considered sameExtent poolOf poolKept repooled
    disturbed created patrolled stays
  have ranges (i : RegionIx) : s.staged[i].badRange = true ↔ ¬ (s.staged[i]).InRange := RegionEntry.badRange_iff _
  have overlapping (i : RegionIx) : overlapFails s.staged i = true ↔ overlaps i := overlapFails_iff s.staged i
  have failing (e : SlotEntry) (r : PhysRow) : r ∈ e.uncontained s.staged ↔ fails e r := by
    simp only [SlotEntry.mem_uncontained, ← Bool.not_eq_true, rowIn_iff, RegionEntry.covers_iff]
    rfl
  have rows (r : PhysRow) : r ∈ s.uncontainedRows ↔ ∃ n : SlotIx, ∃ e ∈ s.slots[n], fails e r := by
    simp only [s.mem_uncontainedRows, failing]
  have considers (i : RegionIx) :
      considered i ↔ ∃ r ∈ s.uncontainedRows, (s.active[i]).covers r.rank r.row = true := by
    simp only [rows, RegionEntry.covers_iff]
    exact ⟨fun ⟨n, e, there, r, fail, cover⟩ => ⟨r, ⟨n, e, there, fail⟩, cover⟩,
      fun ⟨r, ⟨n, e, there, fail⟩, cover⟩ => ⟨n, e, there, r, fail, cover⟩⟩
  have extents (i : RegionIx) : (s.active[i]).sameExtent s.staged[i] = true ↔ sameExtent i :=
    RegionEntry.sameExtent_iff ..
  have pools (i : RegionIx) : s.poolIndexFails i = true ↔ repooled i := by
    simp only [s.poolIndexFails_iff_stripes, RegionEntry.poolOf_iff, ← Bool.not_eq_true, extents]
    rfl
  have rebuilds (i : RegionIx) : s.rebuildFails i = true ↔ disturbed i := s.rebuildFails_iff i
  have creates (i : RegionIx) : s.createsMirror i = true ↔ created i := s.createsMirror_iff_sameMirrored i
  have ranged (all : ∀ i : RegionIx, (s.staged[i]).InRange) : (regionIxs.find? fun i => s.staged[i].badRange) = none :=
    find_regionIxs_of_nowhere ranges fun i bad => bad (all i)
  have apart (sound : tableSound s.staged) : (regionIxs.find? fun i => overlapFails s.staged i) = none :=
    find_regionIxs_of_nowhere overlapping (not_overlapsAt sound)
  have none_failing (all : contained) : s.uncontainedRows = [] :=
    List.eq_nil_iff_forall_not_mem.2 fun r there => by
      obtain ⟨n, e, used, fail⟩ := (rows r).1 there
      exact all n e used r fail
  refine ⟨fun i first => ?range, fun all i first => ?overlap,
    fun sound => ⟨fun i first => ?containment, fun all => ⟨fun i first => ?pool, fun none i first => ?rebuild⟩⟩,
    fun sound all no_pool no_rebuild => ?passes⟩
  case range => exact exec_commitRegions_refused live (commitFailure_range (find_regionIxs_of_lowest ranges first))
  case overlap =>
    exact exec_commitRegions_refused live
      (commitFailure_overlap (ranged all) (find_regionIxs_of_lowest overlapping first))
  case containment =>
    obtain ⟨r, there, cover⟩ := (considers i).1 first.1
    have index : s.lowestContaining s.uncontainedRows = i :=
      State.lowestContaining_eq ⟨r, there, cover⟩ fun j below also => first.2 j below ((considers j).2 also)
    have fails_here := commitFailure_uncontained (ranged sound.1) (apart sound) (List.ne_nil_of_mem there)
    rw [index] at fails_here
    exact exec_commitRegions_refused live fails_here
  case pool =>
    exact exec_commitRegions_refused live
      (commitFailure_pool (ranged sound.1) (apart sound) (none_failing all) (find_regionIxs_of_lowest pools first))
  case rebuild =>
    exact exec_commitRegions_refused live (commitFailure_rebuild (ranged sound.1) (apart sound) (none_failing all)
      (find_regionIxs_of_nowhere pools none) (find_regionIxs_of_lowest rebuilds first))
  case passes =>
    have passed := commitFailure_none (ranged sound.1) (apart sound) (none_failing all)
      (find_regionIxs_of_nowhere pools no_pool) (find_regionIxs_of_nowhere rebuilds no_rebuild)
    have mirror (i : RegionIx) : (s.committed.ok []).mirrors[i] = s.settledMirror i := committed_mirror s i
    have cursor (k : RankNo) (b : BankNo) : (s.committed.ok []).cursors[cursorIx k b]
        = if poolChanged s.active s.staged k then 0 else s.cursors[cursorIx k b] := committed_cursor s k b
    have leaves (i : RegionIx) (gone : ¬ stays i) :
        ¬ (s.committed.patrolled i ∧ (s.active[i]).sameExtent s.staged[i] = true) :=
      fun ⟨still, same⟩ => gone ⟨still, (extents i).1 same⟩
    refine ⟨s.committed.ok [], exec_commitRegions_ok live passed, rfl, fun k b => ⟨fun changed => ?_, fun kept => ?_⟩,
      fun i => ⟨fun creation => ?_, fun same => ?_, fun other => ?_⟩,
      ⟨regionIxs.filter s.createsMirror, rfl, ?_, fun i => ?_⟩, fun i q at_i still => ?_, placedCursor_nowhere,
      fun idle j first => ?_, fun i q at_i gone j still place => ?_⟩
    · rw [cursor, if_pos ((poolChanged_iff ..).2 changed)]
    · rw [cursor, if_neg fun changed => (poolChanged_iff ..).1 changed kept]
    · rw [mirror, settledMirror_created ((creates i).2 creation)]
    · rw [mirror, settledMirror_kept same]
    · rw [mirror, settledMirror_dropped other]
    · have ascending : regionIxs.Pairwise (· < ·) := by decide
      exact ascending.filter _
    · rw [List.mem_filter, creates]
      exact and_iff_right (mem_regionIxs i)
    · exact placedCursor_stays at_i still.1 ((extents i).2 still.2)
    · exact (placedCursor_idle idle).trans (State.lowestCursor_of (s := s.committed) first.1 first.2)
    · rcases place with ⟨above, next⟩ | ⟨-, top, first⟩
      · exact placedCursor_next at_i (leaves i gone) still above next
      · exact (placedCursor_lowest at_i (leaves i gone) top).trans
          (State.lowestCursor_of (s := s.committed) still first)

end Sys2Proof.Machine
end
section
/-! PROOFS. The order of the arbiter (R142, R144 to R147): the oldest eligible operation of each step, what each step
grants, and the state the grant leaves. -/

namespace Sys2Proof.Machine

/-! ### The oldest of a list in age order -/

theorem find?_of_ascending {α : Type} {l : List (α × Nat)} (ascending : l.Pairwise fun x y => x.2 < y.2)
    {test : α × Nat → Bool} {x : α × Nat} (there : x ∈ l) (meets : test x = true)
    (first : ∀ y ∈ l, y.2 < x.2 → test y = false) : l.find? test = some x := by
  obtain ⟨older, newer, rfl⟩ := List.append_of_mem there
  refine List.find?_eq_some_iff_append.2 ⟨meets, older, newer, rfl, fun y before => ?_⟩
  have earlier : y.2 < x.2 := (List.pairwise_append.1 ascending).2.2 y before x List.mem_cons_self
  rw [first y (List.mem_append_left _ before) earlier]
  rfl

namespace RankSched

/-- The operation at a place may be granted (R144): its slot is idle and no earlier operation for its line waits. -/
def EligibleAt (r : RankSched) (i : Nat) (o : LineOp) : Prop :=
  r.placed[i]? = some o ∧ r.banks[o.loc.bank] = none ∧ ∀ j < i, ∀ x, r.placed[j]? = some x → x.loc ≠ o.loc

/-- An eligible operation that is HOST, or holds back a HOST operation of its line (R144, R145). -/
def HostAt (r : RankSched) (i : Nat) (o : LineOp) : Prop :=
  r.EligibleAt i o ∧ (o.kind.cls = .host ∨ ∃ j > i, ∃ x, r.placed[j]? = some x ∧ x.kind.cls = .host ∧ x.loc = o.loc)

variable {r : RankSched}

theorem mem_eligibles_any (wide : r.wide = none) (i : Nat) (o : LineOp) : (o, i) ∈ r.eligibles none ↔ r.EligibleAt i o := by
  simp only [mem_eligibles, SlotChoice.takes, eligible, slotIdle, wide, Option.isNone_none, Bool.true_and, Bool.and_eq_true,
    Option.isNone_iff_eq_none, Bool.not_eq_true', List.any_eq_false, List.mem_take_iff_getElem, decide_eq_true_eq, true_and]
  refine and_congr_right fun _ => and_congr_right fun _ => ⟨fun none_before j before x there same => ?_, ?_⟩
  · obtain ⟨inside, rfl⟩ := List.getElem?_eq_some_iff.1 there
    exact none_before _ ⟨j, lt_min before inside, rfl⟩ same
  · rintro none_before _ ⟨j, before, rfl⟩ same
    exact none_before j (lt_min_iff.1 before).1 _ (List.getElem?_eq_getElem _) same

theorem eligibles_ascend (r : RankSched) (c : SlotChoice) : (r.eligibles c).Pairwise fun x y => x.2 < y.2 := by
  refine List.Pairwise.filter _ (List.pairwise_iff_getElem.2 fun i j hi hj before => ?_)
  simpa using before

theorem inHostStep_iff (i : Nat) (o : LineOp) : r.inHostStep (o, i) = true
    ↔ o.kind.cls = .host ∨ ∃ j > i, ∃ x, r.placed[j]? = some x ∧ x.kind.cls = .host ∧ x.loc = o.loc := by
  simp only [inHostStep, holdsBackHost, Bool.or_eq_true, decide_eq_true_eq, List.any_eq_true, Bool.and_eq_true,
    List.mem_iff_getElem?, List.getElem?_drop]
  refine or_congr Iff.rfl ⟨?_, ?_⟩
  · rintro ⟨x, ⟨n, there⟩, host⟩
    exact ⟨i + 1 + n, by omega, x, there, host⟩
  · rintro ⟨j, later, x, there, host⟩
    exact ⟨x, ⟨j - (i + 1), by rwa [show i + 1 + (j - (i + 1)) = j by omega]⟩, host⟩

section
variable (wide : r.wide = none) {test : LineOp × Nat → Bool} {meets : Nat → LineOp → Prop}
  (tests : ∀ i o, meets i o ↔ r.EligibleAt i o ∧ test (o, i) = true)
include wide tests

/-- The oldest eligible operation that meets a test. -/
theorem eligibles_find_some {i : Nat} {o : LineOp} (first : meets i o ∧ ∀ j < i, ∀ x, ¬ meets j x) :
    (r.eligibles none).find? test = some (o, i) := by
  obtain ⟨eligible, meets_here⟩ := (tests i o).1 first.1
  refine find?_of_ascending (r.eligibles_ascend none) ((mem_eligibles_any wide i o).2 eligible) meets_here ?_
  rintro ⟨x, j⟩ there before
  rw [← Bool.not_eq_true]
  exact fun also => first.2 j before x ((tests j x).2 ⟨(mem_eligibles_any wide j x).1 there, also⟩)

theorem eligibles_find_none (nowhere : ∀ i o, ¬ meets i o) : (r.eligibles none).find? test = none :=
  List.find?_eq_none.2 fun ⟨o, i⟩ there also => nowhere i o ((tests i o).2 ⟨(mem_eligibles_any wide i o).1 there, also⟩)

end

/-! ### The oldest of a class and the choice of the HOST step (R145) -/

/-- The candidates of the HOST step that meet a test. -/
theorem hostAt_tests (test : LineOp × Nat → Bool) (i : Nat) (o : LineOp) : r.HostAt i o ∧ test (o, i) = true
    ↔ r.EligibleAt i o ∧ decide (r.inHostStep (o, i) = true ∧ test (o, i) = true) = true := by
  rw [decide_eq_true_iff, inHostStep_iff, HostAt, and_assoc]

theorem hostAt_iff (i : Nat) (o : LineOp) : r.HostAt i o ↔ r.EligibleAt i o ∧ r.inHostStep (o, i) = true := by
  rw [inHostStep_iff, HostAt]

section
variable (wide : r.wide = none)
include wide

theorem oldestOf_some {cls : OpClass} {i : Nat} {o : LineOp}
    (first : (r.EligibleAt i o ∧ o.kind.cls = cls) ∧ ∀ j < i, ∀ x, ¬ (r.EligibleAt j x ∧ x.kind.cls = cls)) :
    r.oldestOf none cls = some (o, i) :=
  eligibles_find_some (meets := fun i o => r.EligibleAt i o ∧ o.kind.cls = cls) wide
    (fun _ _ => and_congr_right fun _ => decide_eq_true_iff.symm) first

theorem oldestOf_none {cls : OpClass} (nowhere : ∀ i o, ¬ (r.EligibleAt i o ∧ o.kind.cls = cls)) :
    r.oldestOf none cls = none :=
  eligibles_find_none (meets := fun i o => r.EligibleAt i o ∧ o.kind.cls = cls) wide
    (fun _ _ => and_congr_right fun _ => decide_eq_true_iff.symm) nowhere

theorem hostChoice_preferred {writes : Bool} {i : Nat} {o : LineOp}
    (first : (r.HostAt i o ∧ decide (o.kind.isRead ≠ writes) = true)
      ∧ ∀ j < i, ∀ x, ¬ (r.HostAt j x ∧ decide (x.kind.isRead ≠ writes) = true)) :
    r.hostChoice none writes = some (o, i) := by
  have found : (r.eligibles none).find? (fun x => decide (r.inHostStep x = true ∧ decide (x.1.kind.isRead ≠ writes) = true))
      = some (o, i) := eligibles_find_some (meets := fun i o => r.HostAt i o ∧ decide (o.kind.isRead ≠ writes) = true) wide
    (hostAt_tests fun x => decide (x.1.kind.isRead ≠ writes)) first
  simp only [hostChoice, List.find?_filter, found]

theorem hostChoice_unpreferred {writes : Bool}
    (nowhere : ∀ i o, ¬ (r.HostAt i o ∧ decide (o.kind.isRead ≠ writes) = true)) :
    r.hostChoice none writes = (r.eligibles none).find? r.inHostStep := by
  have missing : (r.eligibles none).find? (fun x => decide (r.inHostStep x = true ∧ decide (x.1.kind.isRead ≠ writes) = true))
      = none := eligibles_find_none (meets := fun i o => r.HostAt i o ∧ decide (o.kind.isRead ≠ writes) = true) wide
    (hostAt_tests fun x => decide (x.1.kind.isRead ≠ writes)) nowhere
  simp only [hostChoice, List.find?_filter, missing, List.head?_filter]

theorem hostChoice_other {writes : Bool}
    (nowhere : ∀ i o, ¬ (r.HostAt i o ∧ decide (o.kind.isRead ≠ writes) = true)) {i : Nat} {o : LineOp}
    (first : r.HostAt i o ∧ ∀ j < i, ∀ x, ¬ r.HostAt j x) : r.hostChoice none writes = some (o, i) :=
  (hostChoice_unpreferred wide nowhere).trans (eligibles_find_some wide hostAt_iff first)

theorem hostChoice_none {writes : Bool} (nowhere : ∀ i o, ¬ r.HostAt i o) : r.hostChoice none writes = none :=
  (hostChoice_unpreferred wide fun i o host => nowhere i o host.1).trans
    (eligibles_find_none wide hostAt_iff nowhere)

theorem allIdle_iff : r.allIdle = true ↔ r.wide = none ∧ ∀ b : BankNo, r.banks[b] = none := by
  simp only [allIdle, wide, Option.isNone_none, Bool.true_and, List.all_eq_true, Vector.mem_toList_iff, Vector.mem_iff_getElem,
    Option.isNone_iff_eq_none, true_and]
  constructor
  · exact fun idle b => idle _ ⟨b, b.isLt, rfl⟩
  · rintro idle _ ⟨b, inside, rfl⟩
    exact idle ⟨b, inside⟩

/-! ### What each step of R145 grants -/

section
variable {w : WideOp} (placed : r.widePlaced = some w) {c : SlotChoice} {queued : Nat}
include placed

theorem decideGrant_wide_idle (idle : r.allIdle = true) : r.decideGrant c queued = .wide w := by
  simp only [decideGrant, wide, placed, idle, if_true]
  rfl

theorem decideGrant_wide_busy (busy : ¬ r.allIdle = true) : r.decideGrant c queued = .nothing := by
  simp only [decideGrant, wide, placed, if_neg busy]
  rfl

end

section
variable (unplaced : r.widePlaced = none) {c : SlotChoice} {queued : Nat}
include unplaced

theorem decideGrant_asleep (state : r.state ≠ .operating) : r.decideGrant c queued = .nothing := by
  simp only [decideGrant, wide, unplaced, if_pos state]
  rfl

variable (operating : r.state = .operating)
include operating

theorem decideGrant_mandatory (debt : 8 ≤ r.debt) :
    r.decideGrant c queued = if r.allIdle then .wide .refresh else .nothing := by
  have full : Config.maxDebt ≤ r.debt := debt
  simp only [decideGrant, wide, unplaced, operating, if_pos full]
  rfl

theorem decideGrant_line_step (debt : r.debt < 8) : r.decideGrant c queued = r.lineGrant c queued := by
  have room : ¬ Config.maxDebt ≤ r.debt := Nat.not_le.2 debt
  simp only [decideGrant, wide, unplaced, operating, if_neg room]
  rfl

end

end

section
variable {c : SlotChoice} {queued i : Nat} {o : LineOp}

theorem lineGrant_guarded (waits : 16 ≤ r.moveWait) (found : r.oldestOf c .move = some (o, i)) :
    r.lineGrant c queued = .line i o := by
  have due : Config.maxMoveWait ≤ r.moveWait := waits
  simp only [lineGrant, if_pos due, found]

theorem lineGrant_unguarded (idle : 16 ≤ r.moveWait → r.oldestOf c .move = none) :
    r.lineGrant c queued = r.hostGrant c queued := by
  have skipped : (if Config.maxMoveWait ≤ r.moveWait then r.oldestOf c .move else none) = none := by
    by_cases due : Config.maxMoveWait ≤ r.moveWait
    · rw [if_pos due, idle due]
    · rw [if_neg due]
  simp only [lineGrant, skipped]

theorem hostGrant_some (found : r.hostChoice c (decide (16 ≤ queued)) = some (o, i)) :
    r.hostGrant c queued = .line i o := by
  have chosen : r.hostChoice c (decide (Config.writesFirst ≤ queued)) = some (o, i) := found
  simp only [hostGrant, chosen]

theorem hostGrant_none (missing : r.hostChoice c (decide (16 ≤ queued)) = none) : r.hostGrant c queued
    = if 1 ≤ r.debt ∧ r.holdsHost = false ∧ r.allIdle = true then .wide .refresh else r.lowGrant c := by
  have unchosen : r.hostChoice c (decide (Config.writesFirst ≤ queued)) = none := missing
  simp only [hostGrant, unchosen]

theorem lowGrant_move (found : r.oldestOf c .move = some (o, i)) : r.lowGrant c = .line i o := by
  simp only [lowGrant, found]

theorem lowGrant_patrol (missing : r.oldestOf c .move = none) (found : r.oldestOf c .patrol = some (o, i)) :
    r.lowGrant c = .line i o := by
  simp only [lowGrant, missing, found]

theorem lowGrant_nothing (no_move : r.oldestOf c .move = none) (no_patrol : r.oldestOf c .patrol = none) :
    r.lowGrant c = .nothing := by
  simp only [lowGrant, no_move, no_patrol]

end

theorem holdsHost_eq_false_iff : r.holdsHost = false ↔ ∀ o ∈ r.placed, o.kind.cls ≠ .host := by
  simp [holdsHost]

end RankSched

/-! ### The state a grant leaves (R146, R147) -/

theorem OpKind.isScrub_of_plain {o : OpKind} (plain : o.restorative = false) : o.isScrub = false :=
  (Bool.or_eq_false_iff.1 plain).2

theorem OpKind.plain_of_move {o : OpKind} (move : o.cls = .move) : o.restorative = false := by
  cases o with
  | moveRead => rfl
  | targetWrite => rfl
  | _ => cases move

section
variable {s : State} {k : RankNo}

theorem exec_grant_nothing (decided : (s.ranks[k]).decideGrant none s.front.queue.length = .nothing) :
    exec (.schedulerGrant k) s = .next s := by
  have granted : State.grantOn ((s.ranks[k]).placed.length + 2) s k none = s := by simp only [State.grantOn, decided]
  exact congrArg Host.Outcome.next granted

theorem exec_grant_wide {w : WideOp} (decided : (s.ranks[k]).decideGrant none s.front.queue.length = .wide w) :
    exec (.schedulerGrant k) s = .next { s with ranks := s.ranks.set k ((s.ranks[k]).takeWide w) } := by
  have granted : State.grantOn ((s.ranks[k]).placed.length + 2) s k none = s.onRank k fun r => r.takeWide w := by
    simp only [State.grantOn, decided]
  exact congrArg Host.Outcome.next granted

theorem exec_grant_line {i : Nat} {o : LineOp}
    (decided : (s.ranks[k]).decideGrant none s.front.queue.length = .line i o) (plain : o.kind.restorative = false) :
    exec (.schedulerGrant k) s = .next { s with ranks := s.ranks.set k ((s.ranks[k]).takeLine i o) } := by
  have kept : s.discards o = false := by rw [State.discards, plain, Bool.false_and]
  have granted : State.grantOn ((s.ranks[k]).placed.length + 2) s k none = s.onRank k fun r => r.takeLine i o := by
    simp only [State.grantOn, decided, kept, State.grantLine, OpKind.isScrub_of_plain plain, Bool.false_eq_true, if_false]
  exact congrArg Host.Outcome.next granted

end

/-- Settles O29: the steps of R142 and R145 in their order. -/
theorem grantsFollowTheOrder : Obligations.GrantsFollowTheOrder := by
  unfold Obligations.GrantsFollowTheOrder
  intro k s r idle eligible hostStep first goesFirst moveWaits waited becomes nothing line refresh guard opportunity
  have nothing_of (decided : r.decideGrant none s.front.queue.length = .nothing) : nothing := exec_grant_nothing decided
  have refresh_of (decided : r.decideGrant none s.front.queue.length = .wide .refresh) : refresh := exec_grant_wide decided
  have line_of {i : Nat} {o : LineOp} (plain : o.kind.restorative = false)
      (decided : r.decideGrant none s.front.queue.length = .line i o) : line i o := exec_grant_line decided plain
  have preferred (o : LineOp) :
      decide (o.kind.isRead ≠ decide (16 ≤ s.front.queue.length)) = true ↔ goesFirst o := by
    simp only [goesFirst, decide_eq_true_eq]
    by_cases long : 16 ≤ s.front.queue.length <;> simp [long]
  refine ⟨fun wide => nothing_of ?wide, fun wide w placed => ⟨fun busy => nothing_of ?busy, fun rest entry => ?entry,
    fun rest leaving => ?exit⟩, fun wide unplaced state => nothing_of (RankSched.decideGrant_asleep wide unplaced state),
    fun wide unplaced operating debt => ?mandatory, fun wide unplaced operating debt => ?steps⟩
  case wide => simp only [RankSched.decideGrant, Option.isSome_iff_ne_none.2 wide, if_true]
  case busy => exact RankSched.decideGrant_wide_busy wide placed (mt (RankSched.allIdle_iff wide).1 busy)
  case entry =>
    subst entry
    exact exec_grant_wide (RankSched.decideGrant_wide_idle wide placed ((RankSched.allIdle_iff wide).2 rest))
  case exit =>
    have granted := exec_grant_wide (RankSched.decideGrant_wide_idle wide placed ((RankSched.allIdle_iff wide).2 rest))
    rcases leaving with rfl | rfl <;> exact granted
  case mandatory =>
    have decided := RankSched.decideGrant_mandatory (c := none) (queued := s.front.queue.length) wide unplaced operating debt
    refine ⟨fun rest => refresh_of ?_, fun busy => nothing_of ?_⟩
    · rw [decided, if_pos ((RankSched.allIdle_iff wide).2 rest)]
    · rw [decided, if_neg (mt (RankSched.allIdle_iff wide).1 busy)]
  case steps =>
    have by_steps : r.decideGrant none s.front.queue.length = r.lineGrant none s.front.queue.length :=
      RankSched.decideGrant_line_step wide unplaced operating debt
    refine ⟨fun i o guarded => ?guard, fun unguarded => ?host⟩
    case guard =>
      obtain ⟨⟨waits, here, move⟩, before⟩ := guarded
      have found : r.oldestOf none .move = some (o, i) :=
        RankSched.oldestOf_some wide ⟨⟨here, move⟩, fun j earlier x also => before j earlier x ⟨waits, also⟩⟩
      exact line_of (OpKind.plain_of_move move) (by_steps.trans (RankSched.lineGrant_guarded waits found))
    case host =>
      have to_host := by_steps.trans (RankSched.lineGrant_unguarded fun waits =>
        RankSched.oldestOf_none wide fun i o move => unguarded i o ⟨waits, move⟩)
      refine ⟨fun i o plain chosen => ?preferred, fun none_preferred => ⟨fun i o plain chosen => ?other, fun no_host => ?low⟩⟩
      case preferred =>
        refine line_of plain (to_host.trans (RankSched.hostGrant_some (RankSched.hostChoice_preferred wide ?_)))
        simp only [preferred]
        exact chosen
      case other =>
        refine line_of plain (to_host.trans (RankSched.hostGrant_some (RankSched.hostChoice_other wide ?_ chosen)))
        simp only [preferred]
        exact none_preferred
      case low =>
        have after_host := to_host.trans (RankSched.hostGrant_none (RankSched.hostChoice_none wide no_host))
        have opportunities : opportunity ↔ 1 ≤ r.debt ∧ r.holdsHost = false ∧ r.allIdle = true := by
          rw [RankSched.holdsHost_eq_false_iff, RankSched.allIdle_iff wide]
        refine ⟨fun now => refresh_of (after_host.trans (if_pos (opportunities.1 now))), fun later => ?_⟩
        have to_low := after_host.trans (if_neg (mt opportunities.2 later))
        refine ⟨fun i o chosen => line_of (OpKind.plain_of_move chosen.1.2)
            (to_low.trans (RankSched.lowGrant_move (RankSched.oldestOf_some wide chosen))),
          fun no_move => ⟨fun i o plain chosen => ?patrol, fun none_eligible => nothing_of ?rest⟩⟩
        case patrol =>
          exact line_of plain (to_low.trans
            (RankSched.lowGrant_patrol (RankSched.oldestOf_none wide no_move) (RankSched.oldestOf_some wide chosen)))
        case rest =>
          exact to_low.trans (RankSched.lowGrant_nothing (RankSched.oldestOf_none wide no_move)
            (RankSched.oldestOf_none wide fun i o patrol => none_eligible i o patrol.1))

end Sys2Proof.Machine
end
section
/-! PROOFS. A restorative write at its grant (R69, R136, R145): whether it is still where its line would be written, the
grant it is given, and its discard. -/

namespace Sys2Proof.Machine

/-! ### The check of R69 -/

theorem State.wouldWrite_iff (s : State) (la : LineAddr) (l : Loc) :
    s.wouldWrite la l = true ↔ ∃ locs, s.writeRoute la = .places locs ∧ l ∈ locs := by
  rw [State.wouldWrite]
  cases s.writeRoute la <;> simp

theorem State.discards_eq_false_iff {s : State} {o : LineOp} (restorative : o.kind.restorative = true) :
    s.discards o = false ↔ o.superseded = false ∧ ∃ locs, s.writeRoute o.la = .places locs ∧ o.loc ∈ locs := by
  rw [← State.wouldWrite_iff, State.discards, restorative, Bool.true_and, Bool.or_eq_false_iff, Bool.not_eq_false']

theorem State.placeWaitingScrub_eq_withWaitingScrub (s : State) : s.placeWaitingScrub = s.withWaitingScrub := by
  rw [State.placeWaitingScrub, State.withWaitingScrub]
  cases s.patrol.step with
  | none => rfl
  | some p => cases p.waiting <;> rfl

/-! ### The write at the front of its rank -/

namespace RankSched

variable {r : RankSched} {o : LineOp} {rest : List LineOp}

section
variable (placed : r.placed = o :: rest)
include placed

theorem eligibleAt_front (idle : r.banks[o.loc.bank] = none) : r.EligibleAt 0 o := by
  refine ⟨?_, idle, fun j before => absurd before (Nat.not_lt_zero j)⟩
  rw [placed]
  rfl

/-- An operation placed behind the front one. -/
theorem mem_rest {j : Nat} {x : LineOp} (behind : 0 < j) (there : r.placed[j]? = some x) : x ∈ rest := by
  obtain ⟨n, rfl⟩ := Nat.exists_eq_succ_of_ne_zero behind.ne'
  rw [placed] at there
  exact List.mem_of_getElem? there

theorem eq_front_of_hostAt (unhosted : ∀ x ∈ rest, x.kind.cls ≠ .host) {i : Nat} {x : LineOp} (host : r.HostAt i x) :
    x = o := by
  obtain ⟨⟨there, -⟩, host | ⟨j, later, y, holds, host, -⟩⟩ := host
  · rcases Nat.eq_zero_or_pos i with rfl | behind
    · rw [placed] at there
      exact (Option.some_inj.1 there).symm
    · exact absurd host (unhosted x (mem_rest placed behind there))
  · exact absurd host (unhosted y (mem_rest placed (Nat.zero_lt_of_lt later) holds))

/-- A HOST operation at the front, with none behind it, is the choice of the HOST step. -/
theorem hostChoice_front (wide : r.wide = none) (idle : r.banks[o.loc.bank] = none) (host : o.kind.cls = .host)
    (unhosted : ∀ x ∈ rest, x.kind.cls ≠ .host) (writes : Bool) : r.hostChoice none writes = some (o, 0) := by
  have here : r.HostAt 0 o := ⟨eligibleAt_front placed idle, .inl host⟩
  by_cases first : decide (o.kind.isRead ≠ writes) = true
  · exact hostChoice_preferred wide ⟨⟨here, first⟩, fun j before => absurd before (Nat.not_lt_zero j)⟩
  · refine hostChoice_other wide (fun i x other => first ?_) ⟨here, fun j before => absurd before (Nat.not_lt_zero j)⟩
    rw [← eq_front_of_hostAt placed unhosted other.1]
    exact other.2

/-- The front operation granted (R146). -/
theorem takeLine_front (unmoved : o.kind.cls ≠ .move) (waits : r.moveWait < 16) : r.takeLine 0 o = { r with
    placed := rest
    banks := r.banks.set o.loc.bank (some o)
    moveWait := if rest.any (fun x => decide (x.kind.cls = .move)) then r.moveWait + 1 else r.moveWait } := by
  have holds : r.holdsMove = rest.any fun x => decide (x.kind.cls = .move) := by
    rw [holdsMove, placed, List.any_cons, decide_eq_false unmoved, Bool.false_or]
  have below : min Config.maxMoveWait (r.moveWait + 1) = r.moveWait + 1 := Nat.min_eq_right waits
  rw [takeLine, if_neg unmoved, waitMore, holds, below, placed]
  rfl

variable (wide : r.wide = none) (unplaced : r.widePlaced = none) (operating : r.state = .operating) (debt : r.debt = 0)
  (waits : r.moveWait < 16) (idle : r.banks[o.loc.bank] = none)
include wide unplaced operating debt waits

omit placed in
theorem decideGrant_to_host {c : SlotChoice} {queued : Nat} : r.decideGrant c queued = r.hostGrant c queued :=
  (decideGrant_line_step wide unplaced operating (debt ▸ Nat.zero_lt_succ 7)).trans
    (lineGrant_unguarded fun due => absurd waits (Nat.not_lt.2 due))

include idle

theorem decideGrant_front_host (host : o.kind.cls = .host) (unhosted : ∀ x ∈ rest, x.kind.cls ≠ .host) (queued : Nat) :
    r.decideGrant none queued = .line 0 o :=
  (decideGrant_to_host wide unplaced operating debt waits).trans
    (hostGrant_some (hostChoice_front placed wide idle host unhosted _))

theorem decideGrant_front_patrol (patrol : o.kind.cls = .patrol) (others : ∀ x ∈ rest, x.kind.cls = .patrol)
    (queued : Nat) : r.decideGrant none queued = .line 0 o := by
  have all {i : Nat} {x : LineOp} (there : r.placed[i]? = some x) : x.kind.cls = .patrol := by
    have mem := List.mem_of_getElem? there
    rw [placed, List.mem_cons] at mem
    rcases mem with rfl | behind
    · exact patrol
    · exact others x behind
  have no_host (i : Nat) (x : LineOp) : ¬ r.HostAt i x := by
    rintro ⟨⟨there, -⟩, host | ⟨j, -, y, holds, host, -⟩⟩
    · rw [all there] at host
      cases host
    · rw [all holds] at host
      cases host
  have no_move (i : Nat) (x : LineOp) : ¬ (r.EligibleAt i x ∧ x.kind.cls = .move) := by
    rintro ⟨⟨there, -⟩, move⟩
    rw [all there] at move
    cases move
  have unowed : ¬ (1 ≤ r.debt ∧ r.holdsHost = false ∧ r.allIdle = true) := fun due => by
    rw [debt] at due
    exact absurd due.1 (by decide)
  have oldest : r.oldestOf none .patrol = some (o, 0) :=
    oldestOf_some wide ⟨⟨eligibleAt_front placed idle, patrol⟩, fun j before => absurd before (Nat.not_lt_zero j)⟩
  calc r.decideGrant none queued
    _ = r.hostGrant none queued := decideGrant_to_host wide unplaced operating debt waits
    _ = r.lowGrant none := (hostGrant_none (hostChoice_none wide no_host)).trans (if_neg unowed)
    _ = .line 0 o := lowGrant_patrol (oldestOf_none wide no_move) oldest

end

/-- No operation is for the slot, so nothing is granted for it. -/
theorem decideGrant_of_empty (wide : r.wide = none) (unplaced : r.widePlaced = none) (operating : r.state = .operating)
    (debt : r.debt = 0) {b : BankNo} (elsewhere : ∀ x ∈ r.placed, x.loc.bank ≠ b) (queued : Nat) :
    r.decideGrant (some b) queued = .nothing := by
  have empty : r.eligibles (some b) = [] := by
    refine List.eq_nil_iff_forall_not_mem.2 fun ⟨x, i⟩ there => ?_
    obtain ⟨placed, takes, -⟩ := (r.mem_eligibles (some b) i x).1 there
    exact elsewhere x (List.mem_of_getElem? placed) (of_decide_eq_true takes)
  have no_choice (cls : OpClass) : r.oldestOf (some b) cls = none := by
    rw [oldestOf, empty]
    rfl
  have no_host (writes : Bool) : r.hostChoice (some b) writes = none := by
    simp only [hostChoice, empty, List.filter_nil, List.find?_nil, List.head?_nil]
  have unowed : ¬ (1 ≤ r.debt ∧ r.holdsHost = false ∧ r.allIdle = true) := fun due => by
    rw [debt] at due
    exact absurd due.1 (by decide)
  calc r.decideGrant (some b) queued
    _ = r.lineGrant (some b) queued := decideGrant_line_step wide unplaced operating (debt ▸ Nat.zero_lt_succ 7)
    _ = r.hostGrant (some b) queued := lineGrant_unguarded fun _ => no_choice .move
    _ = r.lowGrant (some b) := (hostGrant_none (no_host _)).trans (if_neg unowed)
    _ = .nothing := lowGrant_nothing (no_choice .move) (no_choice .patrol)

end RankSched

/-! ### The grant and the discard -/

section
variable {s : State} {k : RankNo} {i : Nat} {o : LineOp}
  (decided : (s.ranks[k]).decideGrant none s.front.queue.length = .line i o)
include decided

theorem exec_grant_kept (kept : s.discards o = false) : exec (.schedulerGrant k) s = .next (s.grantLine k i o) := by
  have granted : State.grantOn ((s.ranks[k]).placed.length + 2) s k none = s.grantLine k i o := by
    simp only [State.grantOn, decided, kept, Bool.false_eq_true, if_false]
  exact congrArg Host.Outcome.next granted

/-- A discard after which nothing is granted for the slot (R145). -/
theorem exec_grant_discarded (gone : s.discards o = true)
    (after : ∀ queued, ((s.discardAt k i o).ranks[k]).decideGrant (some o.loc.bank) queued = .nothing) :
    exec (.schedulerGrant k) s = .next (s.discardAt k i o) := by
  have granted : State.grantOn ((s.ranks[k]).placed.length + 2) s k none = s.discardAt k i o := by
    simp only [State.grantOn, decided, gone, if_true, after]
  exact congrArg Host.Outcome.next granted

end

/-- The front operation of a rank leaves its place. -/
def State.withoutFront (s : State) (k : RankNo) (rest : List LineOp) : State :=
  { s with ranks := s.ranks.set k { s.ranks[k] with placed := rest } }

section
variable {s : State} {k : RankNo} {o : LineOp} {rest : List LineOp} (placed : (s.ranks[k]).placed = o :: rest)

theorem State.withoutFront_rank (s : State) (k : RankNo) (rest : List LineOp) :
    (s.withoutFront k rest).ranks[k] = { s.ranks[k] with placed := rest } :=
  (getElem_set s.ranks k k _).trans (if_pos rfl)

include placed

theorem State.onRank_eraseFront :
    s.onRank k (fun r => { r with placed := r.placed.eraseIdx 0 }) = s.withoutFront k rest := by
  have erased : (s.ranks[k]).placed.eraseIdx 0 = rest := by rw [placed, List.eraseIdx_zero, List.tail_cons]
  rw [State.withoutFront, ← erased]
  rfl

theorem discardAt_repair {data : LineData} {i : RegionIx} {side : Side} {patrol : Bool} {cls : WriteClass}
    (kind : o.kind = .repairWrite data i side patrol cls) : s.discardAt k 0 o = { s.withoutFront k rest with
      counters := { s.counters with repairsSuperseded := countUp s.counters.repairsSuperseded }
      patrol := { s.patrol with step := if patrol then patrolLess s.patrol.step else s.patrol.step } } := by
  simp only [State.discardAt, kind, State.onRank_eraseFront placed, countUp_eq_satInc]
  cases patrol <;> rfl

theorem discardAt_scrub {data : LineData} {cls : WriteClass} (kind : o.kind = .scrubWrite data cls) :
    s.discardAt k 0 o = State.withWaitingScrub { s.withoutFront k rest with
      counters := { s.counters with scrubsSuperseded := countUp s.counters.scrubsSuperseded }
      patrol := { s.patrol with step := patrolLess s.patrol.step } } := by
  simp only [State.discardAt, kind, State.onRank_eraseFront placed, countUp_eq_satInc,
    State.placeWaitingScrub_eq_withWaitingScrub]
  rfl

end

/-- A scrub write that waits for another rank leaves the rank as it is when it is placed. -/
theorem State.withWaitingScrub_rank {t : State} {k : RankNo}
    (elsewhere : ∀ p ∈ t.patrol.step, ∀ w ∈ p.waiting, w.loc.rank ≠ k) : t.withWaitingScrub.ranks[k] = t.ranks[k] := by
  rw [State.withWaitingScrub]
  cases step : t.patrol.step with
  | none => rfl
  | some p =>
    cases waiting : p.waiting with
    | none => simp only [waiting]
    | some w =>
      simp only [waiting]
      exact (getElem_set ..).trans (if_neg fun same => elsewhere p step w waiting same.symm)

/-- The step keeps the scrub write that waits with it while work of it remains. -/
theorem waiting_of_patrolLess {step : Option PatrolStep} {p : PatrolStep} (left : p ∈ patrolLess step) :
    ∃ q ∈ step, p.waiting = q.waiting := by
  cases step with
  | none => cases left
  | some q =>
    simp only [patrolLess] at left
    split at left
    · cases left
    · exact ⟨q, rfl, (Option.some_inj.1 left) ▸ rfl⟩

/-- Settles O30: the front write is decided on, checked by R69, and granted or discarded; a discard leaves nothing for its
slot. -/
theorem restorativeWritesAreCheckedAtGrant : Obligations.RestorativeWritesAreCheckedAtGrant := by
  unfold Obligations.RestorativeWritesAreCheckedAtGrant
  intro k o rest s r placed _ operating wide unplaced debt waits idle others lands waited granted dropped
  have nothing_left (queued : Nat) :
      ((s.withoutFront k rest).ranks[k]).decideGrant (some o.loc.bank) queued = .nothing := by
    rw [State.withoutFront_rank]
    exact RankSched.decideGrant_of_empty (r := { s.ranks[k] with placed := rest }) wide unplaced operating debt others queued
  have taken (unmoved : o.kind.cls ≠ .move) : s.onRank k (fun r => r.takeLine 0 o) = granted :=
    congrArg (fun r => { s with ranks := s.ranks.set k r }) (RankSched.takeLine_front placed unmoved waits)
  refine ⟨fun data i side patrol cls kind unhosted => ?repair, fun data cls kind all waiting => ?scrub⟩
  case repair =>
    have checked : s.discards o = false ↔ lands := State.discards_eq_false_iff (by rw [kind]; rfl)
    have decided := RankSched.decideGrant_front_host placed wide unplaced operating debt waits idle (by rw [kind]; rfl)
      unhosted s.front.queue.length
    refine ⟨fun lands_here => (exec_grant_kept decided (checked.2 lands_here)).trans ?_, fun lost => ?_⟩
    · have plain : s.grantLine k 0 o = s.onRank k fun r => r.takeLine 0 o := by
        simp only [State.grantLine, kind, OpKind.isScrub, Bool.false_eq_true, if_false]
      rw [plain, taken (by rw [kind]; nofun)]
    · have gone : s.discards o = true := Bool.eq_true_of_not_eq_false (mt checked.1 lost)
      rw [exec_grant_discarded decided gone fun queued => by rw [discardAt_repair placed kind]; exact nothing_left queued,
        discardAt_repair placed kind]
      rfl
  case scrub =>
    have checked : s.discards o = false ↔ lands := State.discards_eq_false_iff (by rw [kind]; rfl)
    have decided := RankSched.decideGrant_front_patrol placed wide unplaced operating debt waits idle (by rw [kind]; rfl)
      all s.front.queue.length
    refine ⟨fun lands_here => (exec_grant_kept decided (checked.2 lands_here)).trans ?_, fun lost => ?_⟩
    · have scrub : s.grantLine k 0 o = (s.onRank k fun r => r.takeLine 0 o).withWaitingScrub := by
        simp only [State.grantLine, kind, OpKind.isScrub, if_true, State.placeWaitingScrub_eq_withWaitingScrub]
      rw [scrub, taken (by rw [kind]; nofun)]
    · have gone : s.discards o = true := Bool.eq_true_of_not_eq_false (mt checked.1 lost)
      have elsewhere : ∀ p ∈ patrolLess s.patrol.step, ∀ w ∈ p.waiting, w.loc.rank ≠ k := fun p left w waits_there => by
        obtain ⟨q, step, same⟩ := waiting_of_patrolLess left
        exact waiting q step w (same ▸ waits_there)
      rw [exec_grant_discarded decided gone fun queued => by
          rw [discardAt_scrub placed kind, State.withWaitingScrub_rank elsewhere]; exact nothing_left queued,
        discardAt_scrub placed kind]
      rfl

end Sys2Proof.Machine
end
